-- ==== Sys2Proof/Word.lean ====
section
/-! DEFINITION. The words, wrapping counters and fixed-size tables of the CN48 model. -/

namespace Sys2Proof

/-- One byte of a frame or of a serial transaction. -/
abbrev Byte := BitVec 8
/-- A 16-bit field: zone masks, sequences, strip ids. -/
abbrev Half := BitVec 16
/-- A 32-bit field: tick counter values, cycle numbers, signed speeds (chapter "Time" of 00_scope.md). -/
abbrev Word := BitVec 32
/-- A 48-bit wrapping position (line counts or axis counts, 00_scope.md). -/
abbrev Pos := BitVec 48

/-- A table with exactly `n` positions. -/
structure Tab (α : Type) (n : Nat) where
  list : List α
  size : list.length = n
  deriving DecidableEq, Repr

namespace Tab

variable {α β : Type} {n : Nat}

/-- The content of position `i`. -/
def get (t : Tab α n) (i : Fin n) : α := t.list.get (i.cast t.size.symm)

/-- The table with position `i` replaced. -/
def set (t : Tab α n) (i : Fin n) (a : α) : Tab α n :=
  ⟨t.list.set i a, by rw [List.length_set]; exact t.size⟩

/-- The table with every position holding `a`. -/
def const (n : Nat) (a : α) : Tab α n := ⟨List.replicate n a, List.length_replicate⟩

/-- The table whose position `i` holds `f i`. -/
def ofFn (f : Fin n → α) : Tab α n := ⟨List.ofFn f, List.length_ofFn⟩

/-- Every position changed by `f`. -/
def map (f : α → β) (t : Tab α n) : Tab β n := ⟨t.list.map f, by rw [List.length_map]; exact t.size⟩

/-- Every position changed by `f`, which sees the position's number. -/
def mapIdx (f : Fin n → α → β) (t : Tab α n) : Tab β n := ofFn fun i => f i (t.get i)

/-- One position changed by `f`. -/
def update (t : Tab α n) (i : Fin n) (f : α → α) : Tab α n := t.set i (f (t.get i))

end Tab

end Sys2Proof
end

