-- ==== Sys2Proof/Syntax.lean ====
section
/-! DEFINITION. The commands the CN48 takes (one constructor of `Instr` per row of spec/opcode_table.json)
and the frames they carry, in the fields of chapter 12. -/

namespace Sys2Proof

/-- The two fibre ports (chapter 1); also the two directions, and the two copies of a cycle frame, which are
named by the port they leave the line node by. -/
inductive FibrePort
  | a | b
  deriving DecidableEq, Repr

/-- The port other than the one given. -/
def FibrePort.other : FibrePort → FibrePort
  | .a => .b
  | .b => .a

/-- The two serial ports (chapter 11). -/
inductive SerialPort
  | drive | panel
  deriving DecidableEq, Repr

/-- One panel event as a section carries it (12.2, event slots). -/
structure EventSlot where
  kind : Byte
  code : Byte
  x : Half
  y : Half
  deriving DecidableEq, Repr

/-- A node section (R49, layout of 12.2). -/
structure Section where
  address : Byte
  flags : Byte
  tripClass : Byte
  tripCause : Byte
  tripZones : Half
  tripSeq : Half
  errA : Byte
  errB : Byte
  tileDemand : Half
  alertDemand : Half
  normalDemand : Half
  repaint : Half
  eventCount : Byte
  axisRun : Byte
  event1 : EventSlot
  event2 : EventSlot
  words : Tab Byte 6
  linkOffset : Half
  deriving DecidableEq, Repr

/-- One entry of the grant table (R156). -/
structure GrantEntry where
  node : Byte
  tile : Half
  strip : Half
  deriving DecidableEq, Repr

/-- The body of a CYCLE frame after kind and flags (12.2). `grants` holds all 16 grant entries of the layout,
`plan` all 48 bytes of the plan list, `sections` the sections that the body length leaves room for. -/
structure CycleBody where
  cycle : Word
  superLen : Byte
  code : Byte
  planCount : Byte
  console : Byte
  breakIx : Byte
  delay : Word
  sampleBoundary : Word
  sampleP : Pos
  sampleV : Word
  lineZones : Half
  lineState : Byte
  grantCount : Byte
  grants : List GrantEntry
  plan : List Byte
  rotating : Byte
  sections : List Section
  deriving DecidableEq, Repr

/-- The body of a PROBE frame after kind and flags (12.3); `slots` are the 47 address slots. -/
structure ProbeBody where
  number : Byte
  count : Byte
  slots : List Byte
  deriving DecidableEq, Repr

/-- The body of a TRIP frame after kind and flags (12.3). -/
structure TripBody where
  node : Byte
  seq : Half
  cls : Byte
  cause : Byte
  zones : Half
  cycle : Word
  deriving DecidableEq, Repr

/-- The stamp fields that the fragment at offset 0 carries (12.3, FRAGMENT bytes 13 to 31). -/
structure FragmentStamp where
  stampId : Byte
  entry : BitVec 4
  line : BitVec 2
  late : Bool
  trip : Bool
  boundary : Word
  tOff : BitVec 24
  repeatNo : Half
  angle : Word
  v : Word
  deriving DecidableEq, Repr

/-- The body of a FRAGMENT frame after kind and flags (12.3). -/
structure FragmentBody where
  handle : Byte
  stripId : Half
  offset : BitVec 24
  payloadLength : Half
  declared : BitVec 24
  stamp : FragmentStamp
  payload : List Byte
  deriving DecidableEq, Repr

/-- The body of a TILE frame after kind and flags (12.3). -/
structure TileBody where
  screen : Byte
  index : Half
  postSeq : Half
  broadcastSeq : Half
  dataLength : Half
  data : List Byte
  deriving DecidableEq, Repr

/-- The part of a frame's body after the kind and the flags. `other` stands for the bytes of a frame whose
kind is none of the five. -/
inductive Body
  | cycle (c : CycleBody)
  | probe (p : ProbeBody)
  | trip (t : TripBody)
  | fragment (f : FragmentBody)
  | tile (t : TileBody)
  | other (bytes : List Byte)
  deriving DecidableEq, Repr

/-- A frame: the six header bytes (destination, source, length, kind, flags; section 1.2) and the rest of the
body. The CRC is computed (R184). -/
structure Frame where
  dest : Byte
  source : Byte
  length : Half
  kind : Byte
  flags : Byte
  body : Body
  deriving DecidableEq, Repr

/-- The character that closes a frame at the receiver (R3). `lockLost` is the loss of code lock. -/
inductive Closing
  | endDelimiter | stompDelimiter | idle | startDelimiter | lockLost
  deriving DecidableEq, Repr

/-- The parameters of Configure Node (R24, 12.4). -/
structure ConfigureParams where
  address : Byte
  role : Byte
  membership : Half
  code : Byte
  superLen : Byte
  console : Byte
  lineZones : Half
  deriving DecidableEq, Repr

/-- The parameters of Set Line Limits (R68, 12.4). -/
structure LineLimitParams where
  vMax : Word
  vRev : Word
  aUp : Word
  aDn : Word
  aTrip : Word
  aLocal : Word
  deriving DecidableEq, Repr

/-- The context fields of Write Axis Context (R80, 12.4). -/
structure ContextParams where
  mode : Byte
  num : Half
  den : Half
  oTarget : Word
  oSlew : Word
  marks : Byte
  gain : Half
  limit : Word
  tSlew : Word
  quality : Byte
  deadband : Half
  deriving DecidableEq, Repr

/-- The parameters of Write Trip Entry (R110, 12.4). -/
structure TripEntryParams where
  index : Byte
  source : Byte
  cls : Byte
  zones : Half
  latchMode : Byte
  filterTime : Half
  deriving DecidableEq, Repr

/-- The parameters of Set Timing Limits (R25, 12.4). -/
structure TimingLimitParams where
  window : Half
  holdover : Byte
  returnMargin : Half
  driveRead : Byte
  degrade : Byte
  resync : Word
  deriving DecidableEq, Repr

/-- The parameters of the entry form of Write Trigger after the form byte (R125, 12.4). -/
structure TriggerParams where
  index : Byte
  enabled : Byte
  mode : Byte
  angle : Word
  line : Byte
  everyNth : Byte
  phase : Byte
  lead : Word
  axisMask : Byte
  threshold : Byte
  deriving DecidableEq, Repr

/-- The parameters of Set Pool Quotas (R146, 12.4). -/
structure PoolParams where
  stripQuota : Half
  tileReserve : Half
  tileCap : Half
  stripCap : Half
  gap : Byte
  deriving DecidableEq, Repr

/-- The commands and events of spec/opcode_table.json, in the table's order. A command on a serial port names
the issuing port. A frame event names the fibre port and carries the frame; where the spec records the tick
counter value of the start delimiter's arrival (R5), the event carries it as `arrival`. -/
inductive Instr
  | lightAppears (p : FibrePort)
  | lightLost (p : FibrePort)
  | validIdleReceived (p : FibrePort)
  | codeError (p : FibrePort)
  | codeLock (p : FibrePort)
  | lockErrorLimit (p : FibrePort)
  | lockErrorRestart
  /-- `frame` is `none` when the frame ends before its header is complete (R3). -/
  | frameHeaderReceived (p : FibrePort) (arrival : Word) (frame : Option Frame)
  /-- `received` are the bytes between the start delimiter and the closing character. -/
  | badFrameClose (p : FibrePort) (received : List Byte) (closing : Closing)
  | dataCopy (p : FibrePort) (arrival : Word) (frame : Frame)
  | returnedCopy (p : FibrePort) (arrival : Word) (frame : Frame)
  | probeAtFollower (p : FibrePort) (frame : Frame)
  | probeReturn (p : FibrePort) (arrival : Word) (frame : Frame)
  | probeTimeout
  | probeRepeatTimer
  | tripFrame (p : FibrePort) (frame : Frame)
  | fragment (p : FibrePort) (frame : Frame)
  | tile (p : FibrePort) (frame : Frame)
  | undelivered (p : FibrePort) (frame : Frame)
  | transmissionEnd (p : FibrePort)
  | lineNodeBoundary
  | localBoundary
  | timingClose
  | acquisitionWaitExpiry
  /-- `copy` names the copy by the port it was built for. -/
  | returnTimeout (copy : FibrePort)
  | asyncWindowOpen
  | asyncWindowClose
  | pulseStart (line : Fin 4)
  | pulseEnd (line : Fin 4)
  /-- `active` is the pin's new level: `true` when driven low (R106). -/
  | tripInputChange (input : Fin 4) (active : Bool)
  | filterTimeElapsed (input : Fin 4)
  | powerOnReset
  | resetPin
  | resetEnd
  | unknownCommand (p : SerialPort) (code : Byte)
  /-- `midByte`: part of a byte has been clocked since the last byte boundary (R173). -/
  | transactionEnd (p : SerialPort) (midByte : Bool)
  | readStatus (p : SerialPort)
  | readEvents (p : SerialPort)
  | setEventMask (p : SerialPort) (mask : Half)
  | raiseTrip (p : SerialPort) (code : Byte)
  | dropTrip (p : SerialPort) (code : Byte)
  | resetTrip (p : SerialPort) (mask : Word)
  | readTrips (p : SerialPort)
  | readRing (p : SerialPort)
  | readSection (p : SerialPort) (address : Byte)
  | softReset (p : SerialPort)
  | readResetCause (p : SerialPort)
  | configureNode (p : SerialPort) (c : ConfigureParams)
  | join (p : SerialPort)
  | start (p : SerialPort)
  | stop (p : SerialPort)
  | ringRestart (p : SerialPort)
  | setLineSpeed (p : SerialPort) (speed : Word)
  | setLineLimits (p : SerialPort) (l : LineLimitParams)
  | writeAxisContext (p : SerialPort) (axis : Byte) (c : ContextParams)
  | commitContext (p : SerialPort) (mask : Byte)
  | withdrawCommit (p : SerialPort) (mask : Byte)
  | rePhase (p : SerialPort) (mask : Byte)
  | clearTrim (p : SerialPort) (mask : Byte)
  | readAxis (p : SerialPort) (axis : Byte)
  | readSetpoints (p : SerialPort)
  | publishWords (p : SerialPort) (words : Tab Byte 6)
  | writeTripEntry (p : SerialPort) (e : TripEntryParams)
  | lockTripTable (p : SerialPort)
  | setTimingLimits (p : SerialPort) (l : TimingLimitParams)
  /-- `form` is the first parameter of Write Trigger: 0 in this form, or a value above 2, which is refused at
  its arrival (R125). -/
  | writeTriggerEntry (p : SerialPort) (form : Byte) (t : TriggerParams)
  | writeTriggerLine (p : SerialPort) (line : Byte) (width : Half)
  | writeTriggerLifetime (p : SerialPort) (lifetime : Byte)
  | readStamps (p : SerialPort)
  | postMark (p : SerialPort) (axis stampId : Byte) (error : Word) (quality : Byte)
  | setMarkLimits (p : SerialPort) (age : Byte) (speed : Word)
  | openStrip (p : SerialPort) (stampId : Byte) (length : Word) (priority : Byte)
  | writeStripData (p : SerialPort) (handle : Byte) (offset : Word)
  | writeStripDataByte (p : SerialPort) (byte : Byte)
  | closeStrip (p : SerialPort) (handle : Byte)
  | holdStrip (p : SerialPort) (handle : Byte)
  | releaseStrip (p : SerialPort) (handle : Byte)
  | cancelStrip (p : SerialPort) (handle : Byte)
  | listStrips (p : SerialPort)
  | readStripData (p : SerialPort) (record : Byte) (offset : Word) (count : Half)
  | freeStrip (p : SerialPort) (record : Byte)
  | setPoolQuotas (p : SerialPort) (q : PoolParams)
  | postTile (p : SerialPort) (dest screen : Byte) (index : Half) (repaint : Byte) (length : Half)
  | postTileDataByte (p : SerialPort) (byte : Byte)
  | fetchTile (p : SerialPort)
  | releaseTile (p : SerialPort)
  | readRepaints (p : SerialPort)
  | postEvent (p : SerialPort) (kind code : Byte) (x y : Half)
  | readConsoleEvents (p : SerialPort)
  | selectFalls (p : SerialPort)
  | commandByteArrival (p : SerialPort) (code : Byte)
  deriving DecidableEq, Repr

end Sys2Proof
end

