-- ==== Sys2Proof/Decode.lean ====
section
/-! DEFINITION. The decoder over opcode_table.json's bits. The table gives bits to none of its 91 rows (every row's
"fields" is empty), so no word spells a command. -/

namespace Sys2Proof

/-- The command that the word `w` of `nbits` bits spells by the table's bits: none, since no row gives bits. -/
def decodeTableWord (_nbits _w : Nat) : Option Instr := none

end Sys2Proof
end

