-- ==== Sys2Proof/Config.lean ====
section
/-! DEFINITION. What the spec fixes for every CN48 (constants) and what it leaves open (values without a body, which no
proof can evaluate). -/

namespace Sys2Proof.Config

/-- Ticks of one unit of the cycle code: 125 µs of 8 ns (00_scope.md, Time). -/
def ticksPerCode : Nat := 15625
/-- Ticks after which a node without a boundary returns its lock error counts to 0 (R1). -/
def lockErrorPeriod : Nat := 500000
/-- Valid idle characters that lock a port (R1). -/
def idlesToLock : Nat := 64
/-- Lock errors that end a lock (R1). -/
def lockErrorLimit : Nat := 8
/-- Cut-through latency in ticks (R6). -/
def latency : Nat := 96
/-- Bytes of a transit FIFO (R13). -/
def fifoBytes : Nat := 8192
/-- Own TRIP frames that may wait at a port (R114). -/
def ownTripLimit : Nat := 32
/-- Probe timeout in ticks (R29). -/
def probeTimeout : Nat := 125000
/-- Probe repeat timer in ticks (R33). -/
def probeRepeat : Nat := 12500000
/-- Probe frame time f_p in ticks (12.1). -/
def probeTicks : Nat := 30
/-- The time of the greatest async frame (532 ticks) and the guard of 256 ticks (R33, R155, R156). -/
def asyncTail : Nat := 788
/-- Turnaround bytes between a command and its response (section 11.1). -/
def turnaroundBytes : Nat := 2
/-- Pages of the pool (R145). -/
def pages : Nat := 8192
/-- Bytes of a page (R145). -/
def pageBytes : Nat := 256
/-- Payload bytes of a full fragment (R153). -/
def fragmentBytes : Nat := 1024
/-- Ticks of a microsecond, the unit of the filter time (R106). -/
def ticksPerMicrosecond : Nat := 125
/-- Pulses a schedule holds, stamps the list holds (R124, R132). -/
def scheduleLimit : Nat := 32
def stampLimit : Nat := 32
/-- Entries of the tile queues, the console event queue, the panel event queue, the completion log (chapters 9, 10). -/
def tileQueueLimit : Nat := 64
def consoleEventLimit : Nat := 64
def panelEventLimit : Nat := 16
def completionLimit : Nat := 16

/-- Of two entries newly latched at one instant, by their sources, whether the first takes its trip sequence before the
second: "in either order" (R114). Free value: log entry 12. -/
opaque latchesBefore : Nat → Fin 26 → Fin 26 → Bool

/-- The rotating start that a cycle frame carries when it carries no computed grant table; R47 and R157 state none. The frame carries it
modulo the plan count, so that it is any plan position (12.2). Free value: log entry 13. -/
opaque rotatingWithoutTable : Nat → Byte

/-- The byte that stands for a transaction state in the response of Read Status: chapter 12 codes none. The argument
numbers the states in the order of R172. Log entry 14. -/
opaque transactionStateCode : Nat → Byte

/-- The section cycle number that Read Repaints returns for the node's own mask, which came from no section (R168).
Free value: log entry 26. -/
opaque ownRepaintCycle : Nat → Word

/-- The last fragment cycle of a record that the console's own reassembly made, for which no fragment came (R150, R158).
Free value: log entry 42. -/
opaque ownRecordCycle : Nat → Word

end Sys2Proof.Config
end

