-- ==== Sys2Proof/Machine/State.lean ====
section
/-! DEFINITION. The state of the CN48: every piece of state chapters 1 to 11 give the node, block by block in the order of
the table "The node in outline" (00_scope.md), and the state after power-on reset. -/

namespace Sys2Proof.Machine

/-- Reasons the block stops with a fault. There is none: every error of the CN48 is a status, a count, a flag or an
event, and the node goes on. No meaning raises a fault (safe). -/
inductive Fault
  deriving DecidableEq, Repr

/-- Reasons a command has no meaning. -/
inductive Refusal
  /-- Raised by `exec` alone, for a row of the table that has no meaning yet (safe). No arm uses it. -/
  | notModelled (mnemonic : String)
  deriving DecidableEq, Repr

/-! ## Chapter 1: fibre ports and forwarding -/

/-- Link states of a receiver (R1). -/
inductive LinkState
  | dark | acquiring | locked
  deriving DecidableEq, Repr

/-- A route table entry (R15). -/
inductive Route
  | none | a | b
  deriving DecidableEq, Repr

/-- What a follower holds of a section it is writing into a passing copy, until that copy closes (R53). -/
structure SectionWrite where
  sec : Section
  cycle : Word
  carried : List EventSlot
  deriving DecidableEq, Repr

/-- A frame being received: the tick counter value of its start delimiter (R5) and what was staged at its header. -/
structure Reception where
  arrival : Word
  write : Option SectionWrite
  /-- The node's own section arrived already WRITTEN (R54). -/
  conflict : Bool
  /-- A Soft Reset has discarded what was staged of the frame: its close hands nothing over (R22). -/
  discarded : Bool
  deriving DecidableEq, Repr

/-- Who presented a frame to an arbiter. -/
inductive Origin
  | transit
  | ownTrip
  | ownCycle (copy : FibrePort)
  | ownProbe
  | ownFragment (handle : Fin 16) (stripId : Half) (last : Bool) (first : Bool)
  | ownTile
  deriving DecidableEq, Repr

/-- A frame presented to an arbiter or in transmission. -/
structure OutFrame where
  frame : Frame
  origin : Origin
  /-- The port its builder chose; for a transit frame, the port it was to leave by. -/
  chosen : FibrePort
  /-- The port at which the frame is still being received, for a transit frame not yet closed. -/
  incoming : Option FibrePort
  /-- It leaves with bytes other than those received: a flag set, a section written, an address appended (R4, R184). -/
  changed : Bool
  /-- Closed onward with the stomp delimiter (R4). -/
  stomped : Bool
  /-- The received CRC, when the frame closed bad and goes on unchanged; else the CRC sent is the one computed (R4, R184). -/
  crc : Option (List Byte)
  /-- Bytes sent onward: the declared size, or fewer for a short frame (R6). -/
  bytes : Nat
  /-- The earliest tick at which it may leave, once it waits: 96 ticks after it came (R6), or when it was presented. -/
  due : Word
  deriving DecidableEq, Repr

/-- A transmitter sending a frame; `fifoBytes` is the transit FIFO space the frame still holds (R13), `presented` the tick at which
the frame was presented, when it was taken at once (R12). -/
structure Transmission where
  out : OutFrame
  start : Word
  fifoBytes : Nat
  presented : Option Word
  deriving DecidableEq, Repr

/-- How a transmitter ends a frame: with the end delimiter, with the stomp delimiter, or cut short by idle characters (R4, R22). -/
inductive SentClose
  | ended | stomped | idle
  deriving DecidableEq, Repr

/-- A frame that has left a transmitter: how many of its bytes were sent, and how it was closed (R22). -/
structure SentFrame where
  out : OutFrame
  bytes : Nat
  close : SentClose
  deriving DecidableEq, Repr

/-- One fibre port (R1, R12, R13, R19, R20). `light` is the level at the receiver; `waiting` holds the frames of classes 1
to 3 waiting at the arbiter in order of arrival, the transit FIFO's frames among them; `sent` is the model's own record of the
frame that left last (log entry 72). -/
structure Fibre where
  light : Bool
  link : LinkState
  idles : Nat
  lockErrors : Nat
  errors : Nat
  published : Nat
  rx : Option Reception
  tx : Option Transmission
  waiting : List OutFrame
  sent : Option SentFrame
  deriving DecidableEq, Repr

/-- The fibre port pair and forwarding block. -/
structure Fpf where
  a : Fibre
  b : Fibre
  drops : Nat
  routes : Tab Route 48
  deriving DecidableEq, Repr

/-! ## Chapter 2: cycle timing and node state -/

/-- Node states (R23). -/
inductive NodeState
  | passive | joining | probing | aligned | run
  deriving DecidableEq, Repr

/-- Roles (R24). -/
inductive Role
  | none | follower | line
  deriving DecidableEq, Repr

/-- The break index (glossary; R31, R60). -/
inductive BreakIndex
  | intact
  | opened
  | after (index : Nat)
  deriving DecidableEq, Repr

/-- The configuration record (R24). -/
structure NodeConfig where
  address : Byte
  role : Role
  membership : Half
  code : Nat
  superLen : Nat
  console : Byte
  lineZones : Half
  deriving DecidableEq, Repr

/-- The six limits of Set Timing Limits (R25). -/
structure TimingLimits where
  window : Nat
  holdover : Nat
  returnMargin : Nat
  driveRead : Nat
  degrade : Nat
  resync : Nat
  deriving DecidableEq, Repr

/-- The wait of R41 for the other copy of a cycle. -/
structure Acquisition where
  cycle : Word
  copy : FibrePort
  arrival : Word
  deadline : Word
  deriving DecidableEq, Repr

/-- The follower's alignment record (section 2.5) and what it holds from its latest data copy (R40, R55). `closed` is the
instant of the timing close of the current cycle, once made, and `closedBefore` that of the cycle before (R42); `waited` the cycle
whose wait ended without an estimate (R41); `thisA` to `nextB` are the arrivals of the timing copies of the
current and of the next cycle; `seen` the last two cycle numbers of which a data copy was taken; `restart` the source and
cycle number of the RESTART frame taken last (R36). -/
structure Follower where
  offset : Option Nat
  lineAddress : Option Byte
  delay : Nat
  align : Nat
  step : Nat
  holdover : Nat
  unaligned : Bool
  code : Nat
  superLen : Nat
  closed : Option Word
  closedBefore : Option Word
  waited : Option Word
  thisA : Option Word
  thisB : Option Word
  nextA : Option Word
  nextB : Option Word
  seen : List Word
  acquisition : Option Acquisition
  restart : Option (Byte × Word)
  console : Byte
  lineZones : Half
  rotating : Byte
  deriving DecidableEq, Repr

/-- A probe sent and not yet returned or lost (R29); `departure` is `none` while it waits at an arbiter. -/
structure ProbeFlight where
  number : Byte
  leg : FibrePort
  departure : Option Word
  deriving DecidableEq, Repr

/-- What the line node keeps of the A probe while the B probe is out (R30): `wrapped` is false when it was lost. -/
structure ProbeResult where
  wrapped : Bool
  list : List Byte
  estimate : Int
  deriving DecidableEq, Repr

/-- What the line node records at the return of a probe (R29). -/
structure ProbeReturn where
  arrival : Word
  port : FibrePort
  wrapped : Bool
  list : List Byte
  deriving DecidableEq, Repr

/-- The return timeout of one copy (R39); `running` until it expires or the copy returns unwrapped. -/
structure ReturnTimer where
  departure : Word
  deadline : Word
  running : Bool
  deriving DecidableEq, Repr

/-- A returned copy kept for the merge (R58). -/
structure KeptCopy where
  wraps : Nat
  joinPending : Bool
  body : CycleBody
  deriving DecidableEq, Repr

/-- The line node's timing state (2.4.1) and the probe work of section 2.2. `measured` says that D came from a returned
A copy (R38) and not from a probe (R32). -/
structure LineTiming where
  delay : Option Nat
  measured : Bool
  held : Bool
  openA : Bool
  openB : Bool
  joinPending : Bool
  tooSlow : Bool
  probeNumber : Byte
  flight : Option ProbeFlight
  returned : Option ProbeReturn
  aResult : Option ProbeResult
  repeatAt : Option Word
  returnA : Option ReturnTimer
  returnB : Option ReturnTimer
  keptA : Option KeptCopy
  keptB : Option KeptCopy
  restartAsked : Bool
  deriving DecidableEq, Repr

/-- Where the current cycle's async window stands (R155). -/
inductive WindowPhase
  | before | inside | after
  deriving DecidableEq, Repr

/-- The cycle timer and node state block. `boundary` is the tick of the current boundary (line node) or local boundary
(follower), `next` the tick at which the next is placed; `idleSince` the instant from which R1 counts 500,000 ticks. -/
structure Ctn where
  state : NodeState
  config : NodeConfig
  limits : TimingLimits
  boundary : Option Word
  next : Word
  idleSince : Word
  cycle : Word
  plan : List Byte
  breakIx : Option BreakIndex
  fol : Follower
  line : LineTiming
  window : WindowPhase
  windowClose : Word
  deriving DecidableEq, Repr

/-! ## Chapter 3: sections -/

/-- A section table entry (R56). -/
structure TableEntry where
  sec : Section
  cycle : Word
  carried : Bool
  deriving DecidableEq, Repr

/-- The cycle frame engine: own section image with its cycle number (R63), section table, cabinet words (R51). -/
structure Cfe where
  own : Option (Section × Word)
  table : Tab (Option TableEntry) 48
  words : Tab Byte 6
  deriving DecidableEq, Repr

/-! ## Chapter 4: line -/

/-- Line states (R65). -/
inductive LineState
  | halt | moving | tripRamp | tripHold
  deriving DecidableEq, Repr

/-- How a sample came into the window (R65). -/
inductive SampleOrigin
  | received | extrapolated | generated
  deriving DecidableEq, Repr

/-- A line sample (R65); `feed` is true for YES. -/
structure Sample where
  boundary : Word
  p : Pos
  v : Word
  state : LineState
  origin : SampleOrigin
  feed : Bool
  deriving DecidableEq, Repr

/-- The six limits of Set Line Limits (R68). -/
structure LineLimits where
  vMax : Nat
  vRev : Nat
  aUp : Nat
  aDn : Nat
  aTrip : Nat
  aLocal : Nat
  deriving DecidableEq, Repr

/-- The line unit (4.1.1); `window` in order of boundary number, latest last. -/
structure LineUnit where
  window : List Sample
  target : Int
  limits : LineLimits
  seed : Pos
  restartPending : Bool
  lastJump : Int
  jump : Bool
  deriving DecidableEq, Repr

/-! ## Chapters 5 and 8: axes -/

/-- Axis modes (R80). -/
inductive AxisMode
  | off | follow | hold
  deriving DecidableEq, Repr

/-- An axis context (R80). -/
structure AxisContext where
  mode : AxisMode
  num : Int
  den : Nat
  oTarget : Int
  oSlew : Nat
  marks : Bool
  gain : Nat
  limit : Nat
  tSlew : Nat
  quality : Nat
  deadband : Nat
  deriving DecidableEq, Repr

/-- Kinds of prepared step that change runtime values (R89). -/
inductive StepKind
  | gear | engage | rePhase
  deriving DecidableEq, Repr

/-- A prepared step (R81): the runtime values its publication puts in force (R98), and the gear quotient that it holds beside them,
0 for an engagement and a re-phase (R91, R87, R95). A freeze, an OFF record and a no-line
record prepare no change and are `none` on the axis. -/
structure PreparedStep where
  kind : StepKind
  quotient : Int
  q : Pos
  r : Nat
  o : Int
  t : Int
  anchor : Pos
  phaseLost : Bool
  slewing : Bool
  deriving DecidableEq, Repr

/-- One axis (R80, R81). -/
structure Axis where
  ctxA : AxisContext
  ctxB : AxisContext
  q : Pos
  r : Nat
  o : Int
  t : Int
  tStar : Int
  anchor : Option Pos
  phaseLost : Bool
  trimLimit : Bool
  slewing : Bool
  prepared : Option PreparedStep
  deriving DecidableEq, Repr

/-- A setpoint record (R96). In the back set `valid` says that the record may carry VALID at its publication (R97). -/
structure SetpointRecord where
  boundary : Word
  s : Pos
  w : Int
  valid : Bool
  holdover : Bool
  unaligned : Bool
  torqueOff : Bool
  ramp : Bool
  trimLimit : Bool
  slewing : Bool
  phaseLost : Bool
  velSat : Bool
  deriving DecidableEq, Repr

/-- The commit report (R88). -/
structure CommitReport where
  boundary : Word
  switched : Byte
  refused : Byte
  deriving DecidableEq, Repr

/-- The axis engine, with the two mark limits of register correction (R142). -/
structure AxisEngine where
  axes : Tab Axis 8
  commit : Byte
  rePhase : Byte
  report : Option CommitReport
  back : Option (Tab SetpointRecord 8)
  published : Tab SetpointRecord 8
  markAge : Nat
  registerSpeed : Nat
  deriving DecidableEq, Repr

/-! ## Chapter 6: trips -/

/-- Latch modes (R108). -/
inductive LatchMode
  | latched | following
  deriving DecidableEq, Repr

/-- A trip table entry in use (R108). -/
structure TripEntry where
  source : Fin 26
  cls : Nat
  zones : Half
  mode : LatchMode
  latch : Bool
  deriving DecidableEq, Repr

/-- A trip input's filter (R106): its time in µs, the pin's level (true when active), the filtered state and the tick of the
pin's last change, or of the end of the last reset. -/
structure InputFilter where
  time : Nat
  level : Bool
  filtered : Bool
  since : Word
  deriving DecidableEq, Repr

/-- A remote trip record in use (R115). -/
structure RemoteTrip where
  cls : Nat
  zones : Half
  cause : Byte
  seq : Half
  seen : Word
  carried : Bool
  deriving DecidableEq, Repr

/-- The trip unit. `active` is each source as last handed over (R105), `effective` the effective class (R119). -/
structure TripUnit where
  entries : Tab (Option TripEntry) 32
  locked : Bool
  filters : Tab InputFilter 4
  driveCodes : Byte
  panelCodes : Byte
  active : Tab Bool 26
  seq : Half
  remote : Tab (Option RemoteTrip) 48
  effective : Nat
  deriving DecidableEq, Repr

/-! ## Chapter 7: triggers -/

/-- Trigger modes (R124). -/
inductive TriggerMode
  | angle | onTrip
  deriving DecidableEq, Repr

/-- Trip marks (R131). -/
inductive TripMark
  | idle | due | done
  deriving DecidableEq, Repr

/-- A trigger table entry (R124). -/
structure Trigger where
  enabled : Bool
  mode : TriggerMode
  angle : Word
  line : Fin 4
  everyNth : Nat
  phase : Nat
  lead : Nat
  axisMask : Byte
  threshold : Nat
  mark : TripMark
  deriving DecidableEq, Repr

/-- The stamp content fixed when a pulse joins the schedule (R130). -/
structure StampContent where
  entry : Nat
  line : Nat
  boundary : Word
  tOff : Nat
  repeatNo : Half
  angle : Word
  v : Word
  axisMask : Byte
  late : Bool
  trip : Bool
  deriving DecidableEq, Repr

/-- A pulse of a schedule (R124); `begun` marks the pulse in progress. -/
structure Pulse where
  start : Word
  width : Nat
  content : StampContent
  begun : Bool
  deriving DecidableEq, Repr

/-- A camera line (R124). -/
structure CameraLine where
  width : Nat
  schedule : List Pulse
  deriving DecidableEq, Repr

/-- A capture stamp (R130, R132). -/
structure Stamp where
  id : Byte
  content : StampContent
  claimed : Bool
  marked : Byte
  age : Nat
  deriving DecidableEq, Repr

/-- The trigger unit; `stamps` oldest first. -/
structure TriggerUnit where
  triggers : Tab Trigger 16
  lines : Tab CameraLine 4
  stamps : List Stamp
  nextId : Byte
  lifetime : Nat
  deriving DecidableEq, Repr

/-! ## Chapter 9: strips -/

/-- The port statuses (R175). -/
inductive Status
  | ok | clamped | busy | notNow | range | tableLocked | full | unknown | denied
  deriving DecidableEq, Repr

/-- Strip priorities (R147). -/
inductive Priority
  | alert | normal
  deriving DecidableEq, Repr

/-- Descriptor states (R147). -/
inductive StripState
  | opened | queued | sending | held
  deriving DecidableEq, Repr

/-- Pending actions (R147). -/
inductive PendingAction
  | none | hold | cancel
  deriving DecidableEq, Repr

/-- An outgoing strip in a descriptor (R147). `data` holds the bytes written; `pages` counts the STRIP pages holding unsent
bytes; `lostDue` says that the strip is to be ended as lost at the close of its fragment in transmission (R152, R161). -/
structure Strip where
  id : Half
  stamp : Stamp
  declared : Nat
  data : List Byte
  sent : Nat
  priority : Priority
  state : StripState
  pending : PendingAction
  pages : Nat
  lostDue : Bool
  deriving DecidableEq, Repr

/-- What a freed descriptor keeps of its last strip (R152). -/
structure KeptStrip where
  id : Half
  stampId : Byte
  lost : Bool
  deriving DecidableEq, Repr

/-- A descriptor: the strip it holds, if any, and the strip it kept. -/
structure Descriptor where
  strip : Option Strip
  kept : Option KeptStrip
  deriving DecidableEq, Repr

/-- Outcomes of the completion log (R153). -/
inductive Completion
  | sent | cancelled | lost
  deriving DecidableEq, Repr

/-- A completion log entry (R153). -/
structure LogEntry where
  stripId : Half
  stampId : Byte
  outcome : Completion
  deriving DecidableEq, Repr

/-- The last write result (R149). -/
structure WriteResult where
  handle : Byte
  outcome : Status
  stored : Nat
  deriving DecidableEq, Repr

/-- A Write Strip Data transaction in its data phase: `outcome` other than OK has ended the appending. -/
structure StripWriting where
  handle : Byte
  outcome : Status
  stored : Nat
  deriving DecidableEq, Repr

/-- States of an incoming strip record (R158). -/
inductive RecordState
  | assembling | complete | incomplete
  deriving DecidableEq, Repr

/-- An incoming strip record in use (R158); bytes received are the length of `data`. -/
structure StripRecord where
  source : Byte
  stripId : Half
  stamp : Stamp
  declared : Nat
  data : List Byte
  state : RecordState
  lastCycle : Word
  pages : Nat
  deriving DecidableEq, Repr

/-- The grant in hand (R155): bytes left in each part. A blocked part offers no further frame in the cycle. -/
structure Grant where
  cycle : Word
  tile : Nat
  strip : Nat
  tileBlocked : Bool
  stripBlocked : Bool
  deriving DecidableEq, Repr

/-- A grant table computed and not yet carried, with the rotating start its passes began at (R157). -/
structure GrantTable where
  entries : List GrantEntry
  start : Nat
  deriving DecidableEq, Repr

/-- An own FRAGMENT or TILE frame offered to an arbiter and not started: the frame as built, and the port and frame as
presented under R10. -/
structure Offer where
  origin : Origin
  built : Frame
  port : FibrePort
  frame : Frame
  deriving DecidableEq, Repr

/-- The packet store and strip engine. -/
structure PacketStore where
  quota : Nat
  reserve : Nat
  tileCap : Nat
  stripCap : Nat
  gap : Nat
  descriptors : Tab Descriptor 16
  order : List (Fin 16)
  nextId : Half
  log : List LogEntry
  overrun : Bool
  lastWrite : Option WriteResult
  writing : Option StripWriting
  records : Tab (Option StripRecord) 32
  drops : Nat
  grant : Option Grant
  rotate : Nat
  computed : Option GrantTable
  offer : Option Offer
  deriving DecidableEq, Repr

/-! ## Chapter 10: tiles and events -/

/-- The broadcast part of an outgoing tile entry, fixed when its first frame is offered (R165). -/
structure BroadcastRow where
  seq : Half
  two : Bool
  first : Bool
  deriving DecidableEq, Repr

/-- An outgoing tile entry (R163); IN_TRANSMISSION while `started` is above 0. -/
structure OutTile where
  dest : Byte
  screen : Byte
  index : Half
  repaint : Bool
  data : List Byte
  seq : Half
  started : Nat
  row : Option BroadcastRow
  deriving DecidableEq, Repr

/-- An incoming tile entry (R166). -/
structure InTile where
  screen : Byte
  index : Half
  repaint : Bool
  seq : Half
  data : List Byte
  fetched : Bool
  deriving DecidableEq, Repr

/-- A Post Tile transaction in its data phase (R163): its key, the data so far, whether it matched a WAITING entry. -/
structure Posting where
  dest : Byte
  screen : Byte
  index : Half
  repaint : Bool
  length : Nat
  got : List Byte
  matched : Bool
  deriving DecidableEq, Repr

/-- The last post result (R163). -/
structure PostResult where
  outcome : Status
  seq : Half
  dest : Byte
  screen : Byte
  index : Half
  deriving DecidableEq, Repr

/-- A console event queue entry (R170). -/
structure ConsoleEvent where
  source : Byte
  event : EventSlot
  cycle : Word
  deriving DecidableEq, Repr

/-- A repaint table entry of another node: the mask and the cycle number of its section (R168). -/
structure RepaintEntry where
  mask : Half
  cycle : Word
  deriving DecidableEq, Repr

/-- The tile and event unit. `carried` are the carried events of a cycle (R169); the repaint table's entry of the node's own
address is the node's own mask. -/
structure TileUnit where
  out : List OutTile
  posting : Option Posting
  postSeq : Half
  broadcast : Half
  firstDue : Bool
  incoming : List InTile
  lastBroadcast : Option Half
  repaint : Half
  repaints : Tab (Option RepaintEntry) 48
  lastPost : Option PostResult
  events : List EventSlot
  carried : Option (Word × List EventSlot)
  console : List ConsoleEvent
  lost : Bool
  deriving DecidableEq, Repr

/-! ## Chapter 11: ports -/

/-- Transaction states (R172). `cutOff` is the state of a transaction cut off by a Soft Reset on the other port (R182). -/
inductive TransactionState
  | idle | command | parameters | data | turnaround | response | discard | cutOff
  deriving DecidableEq, Repr

/-- A transaction record (R172). `select` is the select line (true when low); `turned` counts the turnaround bytes clocked; `lanes`
is the byte the node drives, `none` while it leaves the lanes released; `response` holds the bytes it has still to drive. -/
structure Transaction where
  select : Bool
  state : TransactionState
  command : Option Byte
  denied : Bool
  status : Option Status
  framing : Nat
  turned : Nat
  lanes : Option Byte
  response : List Byte
  deriving DecidableEq, Repr

/-- A port controller: transaction record, pending set and event mask (R178), port status flags (R177). -/
structure Serial where
  tr : Transaction
  pending : Half
  mask : Half
  cycleJump : Bool
  cycleJitter : Bool
  step : Bool
  deriving DecidableEq, Repr

/-- The reset cause record (R183). -/
inductive ResetCause
  | power | pin | soft
  deriving DecidableEq, Repr

/-- The reset that holds the node (R181). -/
inductive ResetHold
  | power | pin
  deriving DecidableEq, Repr

/-- The whole node. `tick` is the tick counter; `free` is the model's own counter for free values (log entry 12);
`pending` the commands waiting, first in, first out. -/
structure State where
  tick : Word
  hold : Option ResetHold
  fpf : Fpf
  ctn : Ctn
  cfe : Cfe
  lu : LineUnit
  axe : AxisEngine
  tru : TripUnit
  tgu : TriggerUnit
  pse : PacketStore
  teu : TileUnit
  drive : Serial
  panel : Serial
  reads : Nat
  cause : ResetCause
  free : Nat
  pending : List Instr
  deriving DecidableEq, Repr

/-! ## Reset values -/

/-- A fibre port after power-on: DARK with its counts at 0 (R2), and its error count at 255, because the port is down
(R19, R20; log entry 5). -/
def Fibre.reset : Fibre where
  light := false
  link := .dark
  idles := 0
  lockErrors := 0
  errors := 255
  published := 0
  rx := none
  tx := none
  waiting := []
  sent := none

/-- R16, R9: every route NONE, transit drop count 0. -/
def Fpf.reset : Fpf := ⟨Fibre.reset, Fibre.reset, 0, Tab.const 48 .none⟩

/-- The reset values of R24. -/
def NodeConfig.reset : NodeConfig where
  address := 0
  role := .none
  membership := 1
  code := 8
  superLen := 8
  console := 0
  lineZones := 0xFFFF

/-- The reset values of R25, R104, R21 and R76. -/
def TimingLimits.reset : TimingLimits where
  window := 64
  holdover := 4
  returnMargin := 512
  driveRead := 2
  degrade := 16
  resync := 1048576

/-- The alignment record after reset (table of section 2.5); the values held from a header are those of log entry 6. -/
def Follower.reset : Follower where
  offset := none
  lineAddress := none
  delay := 0
  align := 0
  step := 0
  holdover := 0
  unaligned := false
  code := 8
  superLen := 8
  closed := none
  closedBefore := none
  waited := none
  thisA := none
  thisB := none
  nextA := none
  nextB := none
  seen := []
  acquisition := none
  restart := none
  console := 0
  lineZones := 0
  rotating := 0

/-- The line node's timing state after reset (2.4.1). -/
def LineTiming.reset : LineTiming where
  delay := none
  measured := false
  held := false
  openA := false
  openB := false
  joinPending := false
  tooSlow := false
  probeNumber := 0
  flight := none
  returned := none
  aResult := none
  repeatAt := none
  returnA := none
  returnB := none
  keptA := none
  keptB := none
  restartAsked := false

/-- The CTN after power-on reset: PASSIVE, with nothing placed (R28). -/
def Ctn.reset : Ctn where
  state := .passive
  config := NodeConfig.reset
  limits := TimingLimits.reset
  boundary := none
  next := 0
  idleSince := 0
  cycle := 0
  plan := []
  breakIx := none
  fol := Follower.reset
  line := LineTiming.reset
  window := .before
  windowClose := 0

/-- R57, R61, R51. -/
def Cfe.reset : Cfe := ⟨none, Tab.const 48 none, Tab.const 6 0⟩

/-- The defaults of R68. -/
def LineLimits.reset : LineLimits := ⟨100000000, 5000000, 20000, 20000, 100000, 100000⟩

/-- The line unit after power-on reset (4.1.1). -/
def LineUnit.reset : LineUnit := ⟨[], 0, LineLimits.reset, 0, false, 0, false⟩

/-- The reset values of R80. -/
def AxisContext.reset : AxisContext where
  mode := .off
  num := 1
  den := 1
  oTarget := 0
  oSlew := 0
  marks := false
  gain := 0
  limit := 0
  tSlew := 0
  quality := 0
  deadband := 0

/-- The runtime reset values of R81. -/
def Axis.reset : Axis where
  ctxA := AxisContext.reset
  ctxB := AxisContext.reset
  q := 0
  r := 0
  o := 0
  t := 0
  tStar := 0
  anchor := none
  phaseLost := false
  trimLimit := false
  slewing := false
  prepared := none

/-- A record with VALID clear (R81); its other fields are those of log entry 6. -/
def SetpointRecord.reset : SetpointRecord :=
  ⟨0, 0, 0, false, false, false, false, false, false, false, false, false⟩

/-- The axis engine after power-on reset (R81, R142). -/
def AxisEngine.reset : AxisEngine where
  axes := Tab.const 8 Axis.reset
  commit := 0
  rePhase := 0
  report := none
  back := none
  published := Tab.const 8 SetpointRecord.reset
  markAge := 2
  registerSpeed := 1000000

/-- The default trip table (R108). -/
def TripUnit.defaultEntries : Tab (Option TripEntry) 32 :=
  Tab.ofFn fun i =>
    if i = 0 then some ⟨0, 1, 0xFFFF, .latched, false⟩
    else if i = 1 then some ⟨21, 2, 0xFFFF, .latched, false⟩
    else if i = 2 then some ⟨20, 1, 1, .latched, false⟩
    else if i = 3 then some ⟨23, 3, 0xFFFF, .following, false⟩
    else if i = 4 then some ⟨24, 3, 0xFFFF, .following, false⟩
    else if i = 5 then some ⟨22, 3, 0xFFFF, .following, false⟩
    else if i = 6 then some ⟨25, 3, 1, .following, false⟩
    else none

/-- An input filter after power-on reset (R106); the pin's level is that of log entry 4. -/
def InputFilter.reset : InputFilter := ⟨20, false, false, 0⟩

/-- The trip unit after power-on reset (chapter 6). -/
def TripUnit.reset : TripUnit where
  entries := TripUnit.defaultEntries
  locked := false
  filters := Tab.const 4 InputFilter.reset
  driveCodes := 0
  panelCodes := 0
  active := Tab.const 26 false
  seq := 0
  remote := Tab.const 48 none
  effective := 0

/-- The reset values of R124. -/
def Trigger.reset : Trigger where
  enabled := false
  mode := .angle
  angle := 0
  line := 0
  everyNth := 1
  phase := 0
  lead := 0
  axisMask := 0
  threshold := 1
  mark := .idle

/-- The trigger unit after power-on reset (7.6.1). -/
def TriggerUnit.reset : TriggerUnit where
  triggers := Tab.const 16 Trigger.reset
  lines := Tab.const 4 ⟨1250, []⟩
  stamps := []
  nextId := 0
  lifetime := 200

/-- The packet store after power-on reset (R146, R162). -/
def PacketStore.reset : PacketStore where
  quota := 6144
  reserve := 512
  tileCap := 128
  stripCap := 512
  gap := 20
  descriptors := Tab.const 16 ⟨none, none⟩
  order := []
  nextId := 0
  log := []
  overrun := false
  lastWrite := none
  writing := none
  records := Tab.const 32 none
  drops := 0
  grant := none
  rotate := 0
  computed := none
  offer := none

/-- The tile and event unit after power-on reset (R171). -/
def TileUnit.reset : TileUnit where
  out := []
  posting := none
  postSeq := 0
  broadcast := 0
  firstDue := true
  incoming := []
  lastBroadcast := none
  repaint := 0
  repaints := Tab.const 48 none
  lastPost := none
  events := []
  carried := none
  console := []
  lost := false

/-- A transaction record after power-on reset (R183). -/
def Transaction.reset : Transaction := ⟨false, .idle, none, false, none, 0, 0, none, []⟩

/-- A port controller after power-on reset (R178, R183). -/
def Serial.reset : Serial := ⟨Transaction.reset, 0, 0, false, false, false⟩

/-- The machine right after power-on reset has ended (R181, R183): every block at its power-on values, PASSIVE, cause
POWER, no command waiting. -/
def State.reset : State where
  tick := 0
  hold := none
  fpf := Fpf.reset
  ctn := Ctn.reset
  cfe := Cfe.reset
  lu := LineUnit.reset
  axe := AxisEngine.reset
  tru := TripUnit.reset
  tgu := TriggerUnit.reset
  pse := PacketStore.reset
  teu := TileUnit.reset
  drive := Serial.reset
  panel := Serial.reset
  reads := 0
  cause := .power
  free := 0
  pending := []

end Sys2Proof.Machine
end

