-- ==== Sys2Proof/Machine/Ops.lean ====
section
/-! DEFINITION. The named operations over the state: block updates, tick and cycle arithmetic, events, the node's role and
address, the route table, page counts. -/

/-- A frame's size: the body length plus 8 (section 1.2). -/
def Sys2Proof.Frame.size (f : Sys2Proof.Frame) : Nat := f.length.toNat + 8

namespace Sys2Proof.Machine

/-! ## Block updates -/

def State.onFpf (s : State) (f : Fpf → Fpf) : State := { s with fpf := f s.fpf }
def State.onCtn (s : State) (f : Ctn → Ctn) : State := { s with ctn := f s.ctn }
def State.onCfe (s : State) (f : Cfe → Cfe) : State := { s with cfe := f s.cfe }
def State.onLu (s : State) (f : LineUnit → LineUnit) : State := { s with lu := f s.lu }
def State.onAxe (s : State) (f : AxisEngine → AxisEngine) : State := { s with axe := f s.axe }
def State.onTru (s : State) (f : TripUnit → TripUnit) : State := { s with tru := f s.tru }
def State.onTgu (s : State) (f : TriggerUnit → TriggerUnit) : State := { s with tgu := f s.tgu }
def State.onPse (s : State) (f : PacketStore → PacketStore) : State := { s with pse := f s.pse }
def State.onTeu (s : State) (f : TileUnit → TileUnit) : State := { s with teu := f s.teu }

/-- The follower's alignment record changed. -/
def State.onFol (s : State) (f : Follower → Follower) : State := s.onCtn fun c => { c with fol := f c.fol }
/-- The line node's timing state changed. -/
def State.onLine (s : State) (f : LineTiming → LineTiming) : State := s.onCtn fun c => { c with line := f c.line }

/-- The fibre port `p`. -/
def State.fibre (s : State) : FibrePort → Fibre
  | .a => s.fpf.a
  | .b => s.fpf.b

/-- The fibre port `p` changed. -/
def State.onFibre (s : State) (p : FibrePort) (f : Fibre → Fibre) : State :=
  match p with
  | .a => s.onFpf fun x => { x with a := f x.a }
  | .b => s.onFpf fun x => { x with b := f x.b }

/-- The serial port `p`. -/
def State.serial (s : State) : SerialPort → Serial
  | .drive => s.drive
  | .panel => s.panel

/-- The serial port `p` changed. -/
def State.onSerial (s : State) (p : SerialPort) (f : Serial → Serial) : State :=
  match p with
  | .drive => { s with drive := f s.drive }
  | .panel => { s with panel := f s.panel }

/-! ## Bits and bytes -/

/-- Byte `k` of a number, counted from the least significant. -/
def byteOf (x k : Nat) : Byte := BitVec.ofNat 8 (x / 256 ^ k)

/-- The low `n` bytes of `x`, most significant first (chapter 12). -/
def beBytes : Nat → Nat → List Byte
  | 0, _ => []
  | n + 1, x => byteOf x n :: beBytes n x

/-- A signed number in `n` bytes of two's complement, most significant first (chapter 12). -/
def signedBytes (n : Nat) (x : Int) : List Byte := beBytes n (x % (256 ^ n : Nat)).toNat

/-- The number that bytes spell, most significant first. -/
def ofBytes (bs : List Byte) : Nat := bs.foldl (fun acc b => acc * 256 + b.toNat) 0

/-- A yes-or-no byte (chapter 12). -/
def boolByte (b : Bool) : Byte := if b then 1 else 0

/-- The number with the given bits, first listed at bit 0 (chapter 12: sets of flags or marks). -/
def bitsNat : List Bool → Nat
  | [] => 0
  | b :: bs => (if b then 1 else 0) + 2 * bitsNat bs

/-- Bit `i` of a vector set. -/
def setBit {n : Nat} (v : BitVec n) (i : Nat) : BitVec n := v ||| (1#n <<< i)
/-- Bit `i` of a vector cleared. -/
def clearBit {n : Nat} (v : BitVec n) (i : Nat) : BitVec n := v &&& ~~~(1#n <<< i)
/-- Two masks meet when they have a member in common (chapter 6). -/
def meets {n : Nat} (x y : BitVec n) : Bool := x &&& y != 0

/-! ## Ticks and cycles -/

/-- `a − b` read as signed (Time; R40). -/
def sdiff (a b : Word) : Int := (a - b).toInt
/-- The tick `n` ticks after `t`. -/
def later (t : Word) (n : Nat) : Word := t + BitVec.ofNat 32 n
/-- The tick `n` ticks after `t`, where `n` may be negative. -/
def shifted (t : Word) (n : Int) : Word := t + BitVec.ofInt 32 n

/-- Time has come to the instant `t`, or to a later one already reached (log entry 2). -/
def State.reach (s : State) (t : Word) : State := if 0 ≤ sdiff t s.tick then { s with tick := t } else s

/-- Ticks of a frame of `n` bytes (section 1.2). -/
def frameTicks (n : Nat) : Nat := (n + 1) / 2
/-- CF_ticks for a plan of `m` addresses (R33). -/
def cfTicks (m : Nat) : Nat := 86 + 20 * m
/-- T_ticks for a cycle code (Time). -/
def ticksOf (code : Nat) : Nat := code * Config.ticksPerCode

/-- `x` moves toward `target` by at most `step` (Arithmetic). -/
def moveToward (x target : Int) (step : Nat) : Int :=
  if (target - x).natAbs ≤ step then target else if x < target then x + step else x - step

/-- Clamp to [lo, hi] (Arithmetic). -/
def clamp (lo hi x : Int) : Int := if x < lo then lo else if hi < x then hi else x

/-! ## Role, state, address -/

def State.isLine (s : State) : Bool := s.ctn.config.role == .line
def State.isFollower (s : State) : Bool := s.ctn.config.role == .follower
/-- ALIGNED or RUN. -/
def State.cycling (s : State) : Bool := s.ctn.state == .aligned || s.ctn.state == .run
/-- Not held in reset (R181). -/
def State.live (s : State) : Bool := s.hold == none
/-- Frames that close good at port `p` are delivered (R2, R5). -/
def State.delivers (s : State) (p : FibrePort) : Bool :=
  s.live && (s.fibre p).link == .locked && s.ctn.state != .passive

/-- The table position of a node address 1 to 48. -/
def addressIndex (a : Byte) : Option (Fin 48) :=
  if h : 1 ≤ a.toNat ∧ a.toNat ≤ 48 then some ⟨a.toNat - 1, by omega⟩ else none

/-- The address at a table position. -/
def indexAddress (i : Fin 48) : Byte := BitVec.ofNat 8 (i.val + 1)

/-- The cycle code in use: the configured one at a line node, the latest data copy's elsewhere (R37, R40). -/
def State.code (s : State) : Nat := if s.isLine then s.ctn.config.code else s.ctn.fol.code
/-- T_ticks of the current cycle code. -/
def State.cycleTicks (s : State) : Nat := ticksOf s.code
/-- N_s in use (R37, R46). -/
def State.superLen (s : State) : Nat := if s.isLine then s.ctn.config.superLen else s.ctn.fol.superLen
/-- D in force at a line node, the current D at a follower (R155). -/
def State.delay (s : State) : Nat := if s.isLine then s.ctn.line.delay.getD 0 else s.ctn.fol.delay
/-- The console address held (R55, R150). -/
def State.console (s : State) : Byte := if s.isLine then s.ctn.config.console else s.ctn.fol.console
/-- The node is the console (R150). -/
def State.isConsole (s : State) : Bool :=
  s.console == s.ctn.config.address && s.console != 0 && s.ctn.config.role != .none

/-! ## Events (R178, R180) -/

/-- The drive port's event list, in the order of R180. -/
inductive DriveEvent
  | cycle | stateChange | cfMissed | ringChange | joinPending | addressConflict | commitDone | commitRefused
  | tripChange | tripActive | framing
  deriving DecidableEq, Repr

/-- The panel port's event list, in the order of R180. -/
inductive PanelEvent
  | tripChange | tripActive | framing | stampNew | stampOverrun | triggerCollision | markResult | stripDone
  | stripArrived | tileArrived | eventRoom | repaint | poolLow
  deriving DecidableEq, Repr

/-- Bit positions of the drive port's pending set and mask (12.4). -/
def DriveEvent.bit : DriveEvent → Nat
  | .cycle => 0 | .stateChange => 1 | .cfMissed => 2 | .ringChange => 3 | .joinPending => 4 | .addressConflict => 5
  | .commitDone => 6 | .commitRefused => 7 | .tripChange => 8 | .tripActive => 9 | .framing => 10

/-- Bit positions of the panel port's pending set and mask (12.4). -/
def PanelEvent.bit : PanelEvent → Nat
  | .tripChange => 0 | .tripActive => 1 | .framing => 2 | .stampNew => 3 | .stampOverrun => 4 | .triggerCollision => 5
  | .markResult => 6 | .stripDone => 7 | .stripArrived => 8 | .tileArrived => 9 | .eventRoom => 10 | .repaint => 11
  | .poolLow => 12

/-- The bits that name events of a port's list (R179). -/
def listMask : SerialPort → Half
  | .drive => 0x07FF
  | .panel => 0x1FFF

/-- An event joins the drive port's pending set (R178). -/
def State.raiseDrive (s : State) (e : DriveEvent) : State :=
  { s with drive := { s.drive with pending := setBit s.drive.pending e.bit } }

/-- An event joins the panel port's pending set (R178). -/
def State.raisePanel (s : State) (e : PanelEvent) : State :=
  { s with panel := { s.panel with pending := setBit s.panel.pending e.bit } }

/-- FRAMING on the port where it occurs (R180). -/
def State.raiseFraming (s : State) : SerialPort → State
  | .drive => s.raiseDrive .framing
  | .panel => s.raisePanel .framing

/-- TRIP_CHANGE on both ports (R119). -/
def State.raiseTripChange (s : State) : State := (s.raiseDrive .tripChange).raisePanel .tripChange
/-- TRIP_ACTIVE on both ports (R119). -/
def State.raiseTripActive (s : State) : State := (s.raiseDrive .tripActive).raisePanel .tripActive

/-- Run `f` when `c` holds. -/
def State.when (s : State) (c : Bool) (f : State → State) : State := if c then f s else s

/-! ## Output pins, as views of the state -/

/-- The torque-off pin is asserted (R121, R181). -/
def State.torqueOffPin (s : State) : Bool := !(s.live && s.ctn.state == .run && s.tru.effective != 1)

/-- Camera output `i` is asserted (R129, R181). -/
def State.cameraPin (s : State) (i : Fin 4) : Bool := s.live && (s.tgu.lines.get i).schedule.any Pulse.begun

/-- The attention output of a port is asserted (R178, R181). -/
def State.attentionPin (s : State) (p : SerialPort) : Bool := s.live && meets (s.serial p).pending (s.serial p).mask

/-! ## Line window -/

/-- The latest sample (R65). -/
def LineUnit.latest (l : LineUnit) : Option Sample := l.window.getLast?
/-- The sample of a boundary number (R65). -/
def LineUnit.sample (l : LineUnit) (b : Word) : Option Sample := l.window.find? fun x => x.boundary == b
/-- The pair (b − 1, b), when available (R65). -/
def LineUnit.pair (l : LineUnit) (b : Word) : Option (Sample × Sample) :=
  match l.sample (b - 1), l.sample b with
  | some x, some y => some (x, y)
  | _, _ => none
/-- The line state of the latest sample (R73). -/
def State.lineState (s : State) : Option LineState := s.lu.latest.map Sample.state

/-- A sample joins the window (R65). -/
def LineUnit.add (l : LineUnit) (x : Sample) : LineUnit :=
  if (l.sample x.boundary).isSome then l
  else { l with window :=
    l.window.filter (fun y => y.boundary == x.boundary - 1 || y.boundary == x.boundary - 2) ++ [x] }

/-! ## Routes (R15) -/

/-- The route table entry of `dest` at the node `own`. -/
def routeOf (plan : List Byte) (brk : Option BreakIndex) (own dest : Byte) : Route :=
  if own == dest then .none
  else match plan.idxOf? own, plan.idxOf? dest, brk with
    | some i, some j, some .intact =>
      let m := plan.length
      if (j + m - i) % m ≤ (i + m - j) % m then .a else .b
    | some i, some j, some (.after k) =>
      let m := plan.length
      if (i + m - (k + 1) % m) % m < (j + m - (k + 1) % m) % m then .a else .b
    | _, _, _ => .none

/-- The route table of a plan and a break index. -/
def routesOf (plan : List Byte) (brk : Option BreakIndex) (own : Byte) : Tab Route 48 :=
  Tab.ofFn fun i => routeOf plan brk own (indexAddress i)

/-- The route table is recomputed from the plan and break index held (R15). -/
def State.recomputeRoutes (s : State) : State :=
  s.onFpf fun x => { x with routes := routesOf s.ctn.plan s.ctn.breakIx s.ctn.config.address }

/-- The route to an address; NONE for no address. -/
def State.routeTo (s : State) (a : Byte) : Route :=
  match addressIndex a with
  | some i => s.fpf.routes.get i
  | none => .none

/-! ## Pages (R145) -/

/-- Pages that `n` bytes take. -/
def pagesFor (n : Nat) : Nat := (n + (Config.pageBytes - 1)) / Config.pageBytes

/-- STRIP pages: those of the descriptors and of the incoming strip records. -/
def State.stripPages (s : State) : Nat :=
  (s.pse.descriptors.list.map fun d => (d.strip.map Strip.pages).getD 0).sum
    + (s.pse.records.list.map fun r => (r.map StripRecord.pages).getD 0).sum

/-- TILE pages: those of both tile queues and of a post in progress. -/
def State.tilePages (s : State) : Nat :=
  (s.teu.out.map fun e => pagesFor e.data.length).sum + (s.teu.incoming.map fun e => pagesFor e.data.length).sum
    + (s.teu.posting.map fun p => pagesFor p.length).getD 0

/-- FREE pages. -/
def State.freePages (s : State) : Nat := Config.pages - (s.stripPages + s.tilePages)

/-- The STRIP pages that could be had at this instant, one request after another (R145). -/
def State.stripPagesAvailable (s : State) : Nat :=
  min (s.pse.quota - s.stripPages) (s.freePages - s.pse.reserve)

/-- The condition of POOL_LOW (R145). -/
def State.poolLow (s : State) : Bool := s.freePages ≤ s.pse.reserve

/-- POOL_LOW is raised when its condition comes to hold between `before` and `s` (R145). -/
def State.notePool (before s : State) : State :=
  s.when (!before.poolLow && s.poolLow) fun s => s.raisePanel .poolLow

end Sys2Proof.Machine
end

