-- ==== Sys2Proof/WellFormed.lean ====
section
/-! DEFINITION. Which terms of `Instr` spell a command that can occur: the frames they carry have the shape that
their kind and length declare (12.1 to 12.3), and a form byte belongs to its row. Values that the spec answers
itself (a parameter out of range, a field outside its coding) are well-formed. -/

namespace Sys2Proof

/-- The kind codes of 12.1. -/
def Kind.cycle : Byte := 0x01
def Kind.probe : Byte := 0x02
def Kind.trip : Byte := 0x03
def Kind.fragment : Byte := 0x04
def Kind.tile : Byte := 0x05

/-- The kind is one of the five (R3). -/
def knownKind (kind : Byte) : Bool :=
  kind == Kind.cycle || kind == Kind.probe || kind == Kind.trip || kind == Kind.fragment || kind == Kind.tile

/-- The body lengths of 12.1. -/
def validLength (kind : Byte) (len : Nat) : Bool :=
  if kind == Kind.cycle then 204 ≤ len && len ≤ 2084 && (len - 164) % 40 == 0
  else if kind == Kind.probe then len == 51
  else if kind == Kind.trip then len == 14
  else if kind == Kind.fragment || kind == Kind.tile then 33 ≤ len && len ≤ 1056
  else false

/-- The body's constructor is the one of the kind code, and its lists have the lengths of the layout. -/
def Body.fits (kind : Byte) (len : Nat) : Body → Bool
  | .cycle c => kind == Kind.cycle && c.grants.length == 16 && c.plan.length == 48
      && c.sections.length * 40 + 164 == len
  | .probe p => kind == Kind.probe && p.slots.length == 47 && len == 51
  | .trip _ => kind == Kind.trip && len == 14
  | .fragment f => kind == Kind.fragment && f.payload.length + 32 == len
  | .tile t => kind == Kind.tile && t.data.length + 32 == len
  | .other _ => !(knownKind kind && validLength kind len)

/-- The frame is one that a stream of bytes can spell. -/
def Frame.wf (f : Frame) : Bool := f.body.fits f.kind f.length.toNat

/-- The frame is well formed, of the given kind and of a valid length. -/
def Frame.wfOf (kind : Byte) (f : Frame) : Bool :=
  f.wf && f.kind == kind && validLength kind f.length.toNat

/-- The command can occur: see the head of this file. -/
def Instr.wf : Instr → Bool
  | .frameHeaderReceived _ _ frame => frame.all Frame.wf
  | .badFrameClose _ received _ => 6 ≤ received.length
  | .dataCopy _ _ f | .returnedCopy _ _ f => f.wfOf Kind.cycle
  | .probeAtFollower _ f | .probeReturn _ _ f => f.wfOf Kind.probe
  | .tripFrame _ f => f.wfOf Kind.trip
  | .fragment _ f => f.wfOf Kind.fragment
  | .tile _ f => f.wfOf Kind.tile
  | .undelivered _ f => f.wfOf Kind.fragment || f.wfOf Kind.tile
  | .writeTriggerEntry _ form _ => form != 1 && form != 2
  | .lightAppears _ | .lightLost _ | .validIdleReceived _ | .codeError _ | .codeLock _ | .lockErrorLimit _
  | .lockErrorRestart | .probeTimeout | .probeRepeatTimer | .transmissionEnd _ | .lineNodeBoundary | .localBoundary
  | .timingClose | .acquisitionWaitExpiry | .returnTimeout _ | .asyncWindowOpen | .asyncWindowClose | .pulseStart _
  | .pulseEnd _ | .tripInputChange _ _ | .filterTimeElapsed _ | .powerOnReset | .resetPin | .resetEnd
  | .unknownCommand _ _ | .transactionEnd _ _ | .readStatus _ | .readEvents _ | .setEventMask _ _ | .raiseTrip _ _
  | .dropTrip _ _ | .resetTrip _ _ | .readTrips _ | .readRing _ | .readSection _ _ | .softReset _ | .readResetCause _
  | .configureNode _ _ | .join _ | .start _ | .stop _ | .ringRestart _ | .setLineSpeed _ _ | .setLineLimits _ _
  | .writeAxisContext _ _ _ | .commitContext _ _ | .withdrawCommit _ _ | .rePhase _ _ | .clearTrim _ _ | .readAxis _ _
  | .readSetpoints _ | .publishWords _ _ | .writeTripEntry _ _ | .lockTripTable _ | .setTimingLimits _ _
  | .writeTriggerLine _ _ _ | .writeTriggerLifetime _ _ | .readStamps _ | .postMark _ _ _ _ _ | .setMarkLimits _ _ _
  | .openStrip _ _ _ _ | .writeStripData _ _ _ | .writeStripDataByte _ _ | .closeStrip _ _ | .holdStrip _ _
  | .releaseStrip _ _ | .cancelStrip _ _ | .listStrips _ | .readStripData _ _ _ _ | .freeStrip _ _ | .setPoolQuotas _ _
  | .postTile _ _ _ _ _ _ | .postTileDataByte _ _ | .fetchTile _ | .releaseTile _ | .readRepaints _
  | .postEvent _ _ _ _ _ | .readConsoleEvents _ | .selectFalls _ | .commandByteArrival _ _ => true

end Sys2Proof
end

