-- ==== Sys2Proof/Machine/Flags.lean ====
section
/-! DEFINITION. Flags and codes of chapter 12: the frame flags, section flags, record flags, status bytes and enumeration
codes, and the codings that R185 checks. -/

namespace Sys2Proof

open Machine

/-! ## Frame flags (12.1) -/

def Frame.wrapped (f : Frame) : Bool := f.flags.getLsbD 7
def Frame.rewrapped (f : Frame) : Bool := f.flags.getLsbD 6
def Frame.passed (f : Frame) : Bool := f.flags.getLsbD 5
/-- CYCLE: RESTART. -/
def Frame.restart (f : Frame) : Bool := f.flags.getLsbD 0
/-- CYCLE: JOIN_PENDING. -/
def Frame.joinPending (f : Frame) : Bool := f.flags.getLsbD 1
/-- CYCLE: D_HELD. -/
def Frame.delayHeld (f : Frame) : Bool := f.flags.getLsbD 2
/-- FRAGMENT: LAST. -/
def Frame.last (f : Frame) : Bool := f.flags.getLsbD 0
/-- TILE: REPAINT. -/
def Frame.repaint (f : Frame) : Bool := f.flags.getLsbD 0
/-- TILE: FIRST. -/
def Frame.first (f : Frame) : Bool := f.flags.getLsbD 1

/-- The frame with flag `i` of its flags byte set. -/
def Frame.withFlag (f : Frame) (i : Nat) : Frame := { f with flags := setBit f.flags i }

/-- Number of times wrapped: 0 with WRAPPED clear, 1 with it set alone, 2 with REWRAPPED also set (R58). -/
def Frame.wraps (f : Frame) : Nat := if !f.wrapped then 0 else if f.rewrapped then 2 else 1

/-- The flags a wrap sets; none when both are set already (R10, R9). -/
def Frame.turned (f : Frame) : Option Frame :=
  if !f.wrapped then some (f.withFlag 7) else if !f.rewrapped then some (f.withFlag 6) else none

/-! ## Section flags (12.2) -/

def Section.written (x : Section) : Bool := x.flags.getLsbD 0
/-- WRITTEN, LATE, ALIGNED, RUN, HOLDOVER, UNALIGNED at bits 0 to 5. -/
def sectionFlags (written late aligned run holdover unaligned : Bool) : Byte :=
  BitVec.ofNat 8 (bitsNat [written, late, aligned, run, holdover, unaligned])

/-- A section as it is taken: with an event count of at most 2 (R185). -/
def Section.taken (x : Section) : Section := if 2 < x.eventCount.toNat then { x with eventCount := 2 } else x

/-- The events a section carries; an event count above 2 is taken as 2 (R185). -/
def Section.events (x : Section) : List EventSlot := [x.event1, x.event2].take x.eventCount.toNat

end Sys2Proof

namespace Sys2Proof.Machine

/-! ## Setpoint record flags (12.4) -/

def SetpointRecord.flags (r : SetpointRecord) : Nat :=
  bitsNat [r.valid, r.holdover, r.unaligned, r.torqueOff, r.ramp, r.trimLimit, r.slewing, r.phaseLost, r.velSat]

/-! ## Codes -/

def Status.code : Status → Byte
  | .ok => 0x00 | .clamped => 0x01 | .busy => 0x02 | .notNow => 0x03 | .range => 0x04 | .tableLocked => 0x05
  | .full => 0x06 | .unknown => 0x07 | .denied => 0x08

/-- The command was taken (R175). -/
def Status.taken : Status → Bool
  | .ok | .clamped => true
  | _ => false

def NodeState.code : NodeState → Byte
  | .passive => 0 | .joining => 1 | .probing => 2 | .aligned => 3 | .run => 4
def Role.code : Role → Byte
  | .none => 0 | .follower => 1 | .line => 2
def LinkState.code : LinkState → Byte
  | .dark => 0 | .acquiring => 1 | .locked => 2
def Route.code : Route → Byte
  | .none => 0 | .a => 1 | .b => 2
def LatchMode.code : LatchMode → Byte
  | .latched => 0 | .following => 1
def AxisMode.code : AxisMode → Byte
  | .off => 0 | .follow => 1 | .hold => 2
def TriggerMode.code : TriggerMode → Byte
  | .angle => 0 | .onTrip => 1
def SampleOrigin.code : SampleOrigin → Byte
  | .received => 0 | .extrapolated => 1 | .generated => 2
def LineState.code : LineState → Byte
  | .halt => 0 | .moving => 1 | .tripRamp => 2 | .tripHold => 3
def Priority.code : Priority → Byte
  | .alert => 0 | .normal => 1
def StripState.code : StripState → Byte
  | .opened => 1 | .queued => 2 | .sending => 3 | .held => 4
def PendingAction.code : PendingAction → Byte
  | .none => 0 | .hold => 1 | .cancel => 2
def RecordState.code : RecordState → Byte
  | .assembling => 1 | .complete => 2 | .incomplete => 3
def Completion.code : Completion → Byte
  | .sent => 0 | .cancelled => 1 | .lost => 2
def ResetCause.code : ResetCause → Byte
  | .power => 0 | .pin => 1 | .soft => 2
/-- The number of a transaction state in the order of R172; chapter 12 codes none (log entry 14). -/
def TransactionState.number : TransactionState → Nat
  | .idle => 0 | .command => 1 | .parameters => 2 | .data => 3 | .turnaround => 4 | .response => 5 | .discard => 6
  | .cutOff => 7

def BreakIndex.code : BreakIndex → Byte
  | .intact => 0xFF | .opened => 0xFE | .after j => BitVec.ofNat 8 j

/-- Read a break index (12.2). -/
def breakOf (b : Byte) : BreakIndex :=
  if b == 0xFF then .intact else if b == 0xFE then .opened else .after b.toNat

/-- Read a line state (12.2). -/
def lineStateOf (b : Byte) : LineState :=
  if b == 0 then .halt else if b == 1 then .moving else if b == 2 then .tripRamp else .tripHold

end Sys2Proof.Machine

namespace Sys2Proof

/-! ## Fields outside their coding (R185) -/

/-- The addresses of the plan list (12.2). -/
def CycleBody.addresses (c : CycleBody) : List Byte := c.plan.take c.planCount.toNat

/-- The copy's fields lie inside their coding, and its plan count agrees with its body length (R185, R55). The plan list is read as far
as the plan count says (log entry 94). -/
def CycleBody.coded (c : CycleBody) (length : Nat) : Bool :=
  2 ≤ c.code.toNat && c.code.toNat ≤ 32 && 1 ≤ c.superLen.toNat && c.superLen.toNat ≤ 64
    && c.lineState.toNat ≤ 3 && c.grantCount.toNat ≤ 16
    && (c.breakIx == 0xFF || c.breakIx == 0xFE || c.breakIx.toNat < c.planCount.toNat)
    && c.addresses.all (fun a => a.toNat ≤ 48) && 164 + 40 * c.planCount.toNat == length

/-- A TRIP frame's class lies in 1 to 3 (R185). -/
def TripBody.coded (t : TripBody) : Bool := 1 ≤ t.cls.toNat && t.cls.toNat ≤ 3

/-- A FRAGMENT's payload length agrees with its body length (R185). -/
def FragmentBody.coded (f : FragmentBody) (length : Nat) : Bool := f.payloadLength.toNat + 32 == length

/-- A TILE's screen, tile index and data length (R185). -/
def TileBody.coded (t : TileBody) (length : Nat) : Bool :=
  t.screen.toNat ≤ 15 && t.index.toNat ≤ 1023 && t.dataLength.toNat + 32 == length

end Sys2Proof
end

