-- ==== Sys2Proof/Machine/Layout.lean ====
section
/-! DEFINITION. The byte layouts of chapter 12: the CRC (R184), the frames on the fibre, the records returned on the ports, and
the encoding of the items of a response (12.4). -/

namespace Sys2Proof.Machine

/-! ## CRC (R184) -/

/-- One bit of the CRC: shift toward the most significant end, and combine with the generator when the bit shifted out
differs from the data bit. -/
def crcBit (reg : Word) (bit : Bool) : Word :=
  let shiftedReg := reg <<< 1
  if reg.getLsbD 31 != bit then shiftedReg ^^^ 0x04C11DB7 else shiftedReg

/-- One byte of the CRC, most significant bit first. -/
def crcByte (reg : Word) (b : Byte) : Word :=
  [7, 6, 5, 4, 3, 2, 1, 0].foldl (fun r i => crcBit r (b.getLsbD i)) reg

/-- The CRC of a string of bytes: preset to all ones, inverted at the end. -/
def crc (bytes : List Byte) : Word := ~~~(bytes.foldl crcByte 0xFFFFFFFF)

/-- The CRC's four bytes, most significant first. -/
def crcBytes (bytes : List Byte) : List Byte := beBytes 4 (crc bytes).toNat

/-- The receiver's comparison: the last four bytes are the CRC of the bytes before them. -/
def crcMatches (received : List Byte) : Bool :=
  received.drop (received.length - 4) == crcBytes (received.take (received.length - 4))

/-! ## Frames (12.1 to 12.3) -/

def bytesOf {n : Nat} (k : Nat) (v : BitVec n) : List Byte := beBytes k v.toNat

def eventBytes (e : EventSlot) : List Byte := [e.kind, e.code] ++ bytesOf 2 e.x ++ bytesOf 2 e.y

/-- The 40 bytes of a section (12.2). -/
def sectionBytes (x : Section) : List Byte :=
  [x.address, x.flags, x.tripClass, x.tripCause] ++ bytesOf 2 x.tripZones ++ bytesOf 2 x.tripSeq ++ [x.errA, x.errB]
    ++ bytesOf 2 x.tileDemand ++ bytesOf 2 x.alertDemand ++ bytesOf 2 x.normalDemand ++ bytesOf 2 x.repaint
    ++ [x.eventCount, x.axisRun] ++ eventBytes x.event1 ++ eventBytes x.event2 ++ x.words.list ++ bytesOf 2 x.linkOffset

def grantBytes (g : GrantEntry) : List Byte := g.node :: (bytesOf 2 g.tile ++ bytesOf 2 g.strip)

/-- The body bytes after kind and flags. -/
def restBytes : Body → List Byte
  | .cycle c =>
    bytesOf 4 c.cycle ++ [c.superLen, c.code, c.planCount, c.console, c.breakIx, 0] ++ bytesOf 4 c.delay
      ++ bytesOf 4 c.sampleBoundary ++ bytesOf 6 c.sampleP ++ bytesOf 4 c.sampleV ++ bytesOf 2 c.lineZones
      ++ [c.lineState, c.grantCount] ++ c.grants.flatMap grantBytes ++ c.plan ++ [c.rotating, 0]
      ++ c.sections.flatMap sectionBytes
  | .probe p => [p.number, p.count] ++ p.slots
  | .trip t => t.node :: (bytesOf 2 t.seq ++ [t.cls, t.cause] ++ bytesOf 2 t.zones ++ bytesOf 4 t.cycle ++ [0])
  | .fragment f =>
    f.handle :: (bytesOf 2 f.stripId ++ bytesOf 3 f.offset ++ bytesOf 2 f.payloadLength ++ bytesOf 3 f.declared
      ++ [f.stamp.stampId, byteOf (f.stamp.entry.toNat * 16 + f.stamp.line.toNat * 4
            + (if f.stamp.late then 2 else 0) + (if f.stamp.trip then 1 else 0)) 0]
      ++ bytesOf 4 f.stamp.boundary ++ bytesOf 3 f.stamp.tOff ++ bytesOf 2 f.stamp.repeatNo ++ bytesOf 4 f.stamp.angle
      ++ bytesOf 4 f.stamp.v ++ f.payload)
  | .tile t =>
    t.screen :: (bytesOf 2 t.index ++ bytesOf 2 t.postSeq ++ bytesOf 2 t.broadcastSeq ++ bytesOf 2 t.dataLength
      ++ List.replicate 21 0 ++ t.data)
  | .other bytes => bytes

/-- The bytes of a frame that its CRC covers (R184). -/
def coveredBytes (f : Frame) : List Byte :=
  [f.dest, f.source] ++ bytesOf 2 f.length ++ [f.kind, f.flags] ++ restBytes f.body

/-- The bytes of a frame on the fibre, between its delimiters. -/
def wireBytes (f : Frame) : List Byte := coveredBytes f ++ crcBytes (coveredBytes f)

/-! ## Reading a received frame's bytes (R3, R4) -/

def byteAt (bs : List Byte) (i : Nat) : Byte := bs.getD i 0
/-- The size the length field declares. -/
def declaredSize (bs : List Byte) : Nat := ofBytes [byteAt bs 2, byteAt bs 3] + 8
/-- The header is complete, of a known kind and of a valid length (the first three errors of R3 are absent). -/
def headerGood (bs : List Byte) : Bool :=
  6 ≤ bs.length && knownKind (byteAt bs 4) && validLength (byteAt bs 4) (declaredSize bs - 8)

/-- The bytes received in the place of the CRC. -/
def receivedCrc (bs : List Byte) : List Byte := (bs.drop (declaredSize bs - 4)).take 4

/-- How a frame with a good header closed (R3, R4). -/
inductive Close
  | good | crcBad | stomped | wrongSize
  deriving DecidableEq, Repr

/-- The outcome of R4; a frame of wrong size is a framing error whatever its CRC, and one that is also stomped counts once,
as a framing error (R19). An idle character, a start delimiter or a loss of code lock after exactly the declared size counts as one
too (log entry 73). -/
def closeOf (bs : List Byte) (closing : Closing) : Close :=
  if bs.length != declaredSize bs then .wrongSize
  else match closing with
    | .endDelimiter => if crcMatches bs then .good else .crcBad
    | .stompDelimiter => .stomped
    | .idle | .startDelimiter | .lockLost => .wrongSize

/-! ## Records returned on the ports (12.4) -/

/-- A setpoint record, 17 bytes. -/
def recordBytes (axis : Nat) (r : SetpointRecord) : List Byte :=
  byteOf axis 0 :: (beBytes 2 r.flags ++ bytesOf 4 r.boundary ++ bytesOf 6 r.s ++ signedBytes 4 r.w)

/-- A stamp, 25 bytes. -/
def stampBytes (x : Stamp) : List Byte :=
  [x.id, byteOf x.content.entry 0, byteOf x.content.line 0,
      BitVec.ofNat 8 (bitsNat [x.content.late, x.content.trip, x.claimed])]
    ++ bytesOf 4 x.content.boundary ++ beBytes 4 x.content.tOff ++ bytesOf 2 x.content.repeatNo
    ++ bytesOf 4 x.content.angle ++ bytesOf 4 x.content.v ++ [x.content.axisMask, x.marked, byteOf x.age 0]

/-- A console event, 11 bytes. -/
def consoleEventBytes (e : ConsoleEvent) : List Byte := e.source :: (eventBytes e.event ++ bytesOf 4 e.cycle)

/-- An item that may be absent: a presence byte, then the item or as many zero bytes (12.4). -/
def optionBytes {α : Type} (n : Nat) (f : α → List Byte) : Option α → List Byte
  | some x => 1 :: f x
  | none => 0 :: List.replicate n 0

/-- A set of flags, one byte for each eight, first listed at bit 0 (12.4). -/
def flagBytes (n : Nat) (bs : List Bool) : List Byte := (List.range n).map fun k => byteOf (bitsNat bs) k

/-- A list of variable length, preceded by its count (12.4). -/
def listBytes {α : Type} (f : α → List Byte) (xs : List α) : List Byte := byteOf xs.length 0 :: xs.flatMap f

/-- An axis context, its fields in the order and widths of Write Axis Context (12.4). -/
def contextBytes (c : AxisContext) : List Byte :=
  [c.mode.code] ++ signedBytes 2 c.num ++ beBytes 2 c.den ++ signedBytes 4 c.oTarget ++ beBytes 4 c.oSlew
    ++ [boolByte c.marks] ++ beBytes 2 c.gain ++ beBytes 4 c.limit ++ beBytes 4 c.tSlew ++ beBytes 1 c.quality
    ++ beBytes 2 c.deadband

/-- The fields of a trigger entry, in the order and widths of Write Trigger (12.4): what the response of the entry form
carries (log entry 90). -/
def triggerBytes (t : Trigger) : List Byte :=
  [boolByte t.enabled, t.mode.code] ++ bytesOf 4 t.angle ++ [byteOf t.line.val 0] ++ beBytes 1 t.everyNth
    ++ beBytes 1 t.phase ++ beBytes 4 t.lead ++ [t.axisMask] ++ beBytes 1 t.threshold

/-- A transaction record (R172), as Read Status returns it (log entry 14). -/
def transactionBytes (state : TransactionState) (t : Transaction) : List Byte :=
  [Config.transactionStateCode state.number] ++ optionBytes 1 (fun c => [c]) t.command
    ++ optionBytes 1 (fun st => [st.code]) t.status ++ beBytes 1 t.framing

/-- The last write result (R149). -/
def writeResultBytes (w : Option WriteResult) : List Byte :=
  optionBytes 5 (fun w => [w.handle, w.outcome.code] ++ beBytes 3 w.stored) w

/-- The last post result (R163): outcome, post sequence, key. -/
def postResultBytes (r : Option PostResult) : List Byte :=
  optionBytes 7 (fun r => [r.outcome.code] ++ bytesOf 2 r.seq ++ [r.dest, r.screen] ++ bytesOf 2 r.index) r

end Sys2Proof.Machine
end

