-- ==== Sys2Proof/Machine/Operands.lean ====
section
/-! DEFINITION. The operand forms of the port commands: command codes and parameter counts (12.4), permissions (R176), the
transaction record's moves (R172 to R174), and the one way in which a command arrives and is answered (R175). -/

namespace Sys2Proof.Machine

/-! ## Codes and permissions (12.4, R176) -/

/-- The code is a command of the node (R174). -/
def knownCommand (code : Byte) : Bool :=
  (0x01 ≤ code.toNat && code.toNat ≤ 0x0B) || (0x20 ≤ code.toNat && code.toNat ≤ 0x31)
    || (0x40 ≤ code.toNat && code.toNat ≤ 0x53)

/-- The command is permitted on the port (R176). -/
def permitted (p : SerialPort) (code : Byte) : Bool :=
  if code.toNat ≤ 0x0B then true
  else if code.toNat ≤ 0x31 then p == .drive
  else p == .panel

/-- The command has no parameters (12.4). -/
def parameterless (code : Byte) : Bool :=
  [0x01, 0x02, 0x07, 0x08, 0x0A, 0x0B, 0x21, 0x22, 0x23, 0x24, 0x2D, 0x30, 0x41, 0x4A, 0x4F, 0x50, 0x51, 0x53].contains
    code.toNat

/-- The command goes on with data bytes and has no response: Write Strip Data and Post Tile. -/
def streaming (code : Byte) : Bool := code == 0x45 || code == 0x4E

/-! ## Arrival of a command -/

/-- What becomes of a command that has arrived on a port. -/
inductive Arrival
  | ignored | denied | taken
  deriving DecidableEq, Repr

/-- A command can arrive in the transaction state: its select has not yet fallen (the command stands for the whole of its
transaction so far, log entry 3), its command byte completes, or its last parameter byte does (R172). -/
def Transaction.ready (t : Transaction) (code : Byte) : Bool :=
  match t.state with
  | .idle => !t.select
  | .command => true
  | .parameters => t.command == some code
  | .data | .turnaround | .response | .discard | .cutOff => false

/-- What becomes of a command with the given code on port `p` (R172, R174, R181). -/
def State.arrival (s : State) (p : SerialPort) (code : Byte) : Arrival :=
  if s.live && (s.serial p).tr.ready code then (if permitted p code then .taken else .denied) else .ignored

/-- One byte is clocked on the port's lanes: the second turnaround byte opens the response, whose bytes the node then drives one
after another, and zero bytes after the last (R172). -/
def Transaction.clocked (t : Transaction) : Transaction :=
  match t.state with
  | .turnaround =>
    if t.turned + 1 < Config.turnaroundBytes then { t with turned := t.turned + 1 }
    else { t with state := .response, turned := 0, lanes := some (t.response.headD 0), response := t.response.drop 1 }
  | .response => { t with lanes := some (t.response.headD 0), response := t.response.drop 1 }
  | .idle | .command | .parameters | .data | .discard | .cutOff => t

/-- Nothing commands the block: one tick passes, and each port whose transaction is in TURNAROUND or RESPONSE is clocked by one byte
(log entry 1). -/
def State.idle (s : State) : State :=
  if s.live then
    { s with tick := s.tick + 1, drive := { s.drive with tr := s.drive.tr.clocked }, panel := { s.panel with tr := s.panel.tr.clocked } }
  else { s with tick := s.tick + 1 }

/-- The port goes to TURNAROUND with a response: the status byte, and the content when the command was taken (R175). -/
def State.respond (s : State) (p : SerialPort) (code : Byte) (st : Status) (content : List Byte) : State :=
  s.onSerial p fun x => { x with tr := { x.tr with
    select := true, state := .turnaround, command := some code, denied := false, status := some st, turned := 0,
    lanes := none, response := st.code :: (if st.taken then content else []) } }

/-- The port goes to DATA after the parameters of a streaming command; a denied one leaves DENIED as the last status
(R172, R174). -/
def State.stream (s : State) (p : SerialPort) (code : Byte) (denied : Bool) : State :=
  s.onSerial p fun x => { x with tr := { x.tr with
    select := true, state := .data, command := some code, denied := denied,
    status := if denied then some .denied else x.tr.status, response := [] } }

/-- What a command answers: the state it leaves, its status, the content of its response. -/
structure Answer where
  state : State
  status : Status
  content : List Byte := []
  deriving DecidableEq, Repr

/-- A refused command changes nothing (R175). -/
def State.refuse (s : State) (st : Status) : Answer := ⟨s, st, []⟩

/-- A command that is not streaming: ignored, denied (R174), or taken as `act` says and answered (R175). One without parameters is
denied at its command byte: the model's choice (log entry 104). -/
def State.command (s : State) (p : SerialPort) (code : Byte) (act : State → Answer) : State :=
  match s.arrival p code with
  | .ignored => s
  | .denied => s.respond p code .denied []
  | .taken => (act s).state.respond p code (act s).status (act s).content

/-! ## Parameter values -/

/-- Read a role (12.4). -/
def roleOf (b : Byte) : Option Role :=
  if b == 0 then some .none else if b == 1 then some .follower else if b == 2 then some .line else none
/-- Read an axis mode (12.4). -/
def axisModeOf (b : Byte) : Option AxisMode :=
  if b == 0 then some .off else if b == 1 then some .follow else if b == 2 then some .hold else none
/-- Read a yes-or-no byte (12.4). -/
def boolOf (b : Byte) : Option Bool := if b == 0 then some false else if b == 1 then some true else none
/-- Read a latch mode (12.4). -/
def latchModeOf (b : Byte) : Option LatchMode :=
  if b == 0 then some .latched else if b == 1 then some .following else none
/-- Read a trigger mode (12.4). -/
def triggerModeOf (b : Byte) : Option TriggerMode :=
  if b == 0 then some .angle else if b == 1 then some .onTrip else none
/-- Read a priority (12.4). -/
def priorityOf (b : Byte) : Option Priority :=
  if b == 0 then some .alert else if b == 1 then some .normal else none

/-- A byte as a table position below `n`. -/
def indexOf (n : Nat) (b : Byte) : Option (Fin n) := if h : b.toNat < n then some ⟨b.toNat, h⟩ else none

/-- A number lies in [lo, hi]. -/
def inRange (lo hi x : Nat) : Bool := lo ≤ x && x ≤ hi

end Sys2Proof.Machine
end

