-- ==== Sys2Proof/Machine/Builders.lean ====
section
/-! DEFINITION. What the builders of FRAGMENT and TILE frames record of a frame (chapters 9 and 10): the strip of a descriptor and the
completion log, the key of a tile entry, the close of a fragment, and a start that is taken back because a more urgent frame was
presented at the same instant (R12). -/

namespace Sys2Proof.Machine

/-! ## Descriptors (R147) -/

/-- The strip that a descriptor holds. -/
def State.strip (s : State) (h : Fin 16) : Option Strip := (s.pse.descriptors.get h).strip

/-- The strip of a descriptor replaced. -/
def State.putStrip (s : State) (h : Fin 16) (x : Strip) : State :=
  s.onPse fun u => { u with descriptors := u.descriptors.update h fun d => { d with strip := some x } }

/-- The descriptor leaves the send order. -/
def State.leaveOrder (s : State) (h : Fin 16) : State :=
  s.onPse fun u => { u with order := u.order.filter (· != h) }

/-! ## The completion log (R153) -/

/-- An entry joins the completion log. -/
def State.logStrip (s : State) (id : Half) (stampId : Byte) (o : Completion) : State :=
  let full := Config.completionLimit ≤ s.pse.log.length
  (s.onPse fun u => { u with
    log := (if full then u.log.drop 1 else u.log) ++ [⟨id, stampId, o⟩], overrun := u.overrun || full }).raisePanel .stripDone

/-- The descriptor is freed: it keeps its strip's id and stamp id, with a LOST mark or without (R152). -/
def State.freeDescriptor (s : State) (h : Fin 16) (x : Strip) (lost : Bool) : State :=
  (s.leaveOrder h).onPse fun u =>
    { u with descriptors := u.descriptors.set h ⟨none, some ⟨x.id, x.stamp.id, lost⟩⟩ }

/-- The strip is ended, freed and logged (R152, R153). -/
def State.endStrip (s : State) (h : Fin 16) (x : Strip) (o : Completion) : State :=
  (s.freeDescriptor h x (o == .lost)).logStrip x.id x.stamp.id o

/-- A fragment of the strip is in transmission no longer: what waited for that comes to pass, else the strip stands as `x`; `last` says
that the fragment closed and carried LAST (R151 to R153). -/
def State.fragmentEnds (s : State) (h : Fin 16) (x : Strip) (last : Bool) : State :=
  if x.lostDue then s.endStrip h x .lost
  else if x.pending = .cancel then s.endStrip h x .cancelled
  else if last then s.endStrip h x .sent
  else if x.pending = .hold then (s.leaveOrder h).putStrip h { x with state := .held, pending := .none }
  else s.putStrip h x

/-- The start of a fragment frame of `size` bytes is taken back: it costs nothing (R12, R14, R153, R155). `first` says that the strip
was QUEUED until then. -/
def State.fragmentWithdrawn (s : State) (h : Fin 16) (id : Half) (first : Bool) (size : Nat) : State :=
  let s := s.onPse fun u => { u with grant := u.grant.map fun g => { g with strip := g.strip + size } }
  match s.strip h with
  | some x =>
    if x.id ≠ id then s
    else s.fragmentEnds h
      { x with sent := x.sent - (size - 40), state := if first && x.state == .sending then .queued else x.state } false
  | none => s

/-! ## Outgoing tile entries (R163) -/

/-- The entry's key. -/
def OutTile.hasKey (e : OutTile) (dest screen : Byte) (index : Half) : Bool :=
  e.dest == dest && e.screen == screen && e.index == index

/-- The entry is WAITING. -/
def OutTile.waits (e : OutTile) : Bool := e.started == 0

/-- The place of the WAITING entry of a key. -/
def TileUnit.findWaiting (u : TileUnit) (dest screen : Byte) (index : Half) : Option Nat :=
  u.out.findIdx? fun e => e.waits && e.hasKey dest screen index

/-- The start of the entry with this post sequence is taken back. The entry is WAITING again when that was its first frame, and takes
up a post made meanwhile under its key (R163). -/
def TileUnit.unstart (u : TileUnit) (seq : Half) : TileUnit :=
  match u.out.findIdx? fun e => e.seq == seq && 0 < e.started with
  | some k =>
    match u.out[k]? with
    | some e =>
      let e := { e with started := e.started - 1 }
      match if e.waits then u.findWaiting e.dest e.screen e.index else none with
      | some j =>
        match u.out[j]? with
        | some n => { u with out := (u.out.set k { e with data := n.data, repaint := n.repaint, seq := n.seq }).eraseIdx j }
        | none => u
      | none => { u with out := u.out.set k e }
    | none => u
  | none => u

/-- The start of a tile frame of `size` bytes is taken back (R12, R14, R155, R165). -/
def State.tileWithdrawn (s : State) (seq : Half) (size : Nat) : State :=
  (s.onPse fun u => { u with grant := u.grant.map fun g => { g with tile := g.tile + size } }).onTeu fun u => u.unstart seq

end Sys2Proof.Machine
end

