-- ==== Sys2Proof/Machine/Arbiter.lean ====
section
/-! DEFINITION. The output arbiters and transit FIFOs (section 1.6), wrap (R10, R11), and what becomes of a frame passing through
when it closes (R4, R6). -/

namespace Sys2Proof.Machine

/-- The frame is transit. -/
def OutFrame.isTransit (o : OutFrame) : Bool := o.origin == .transit

/-- The class of a waiting frame (R12). -/
def OutFrame.cls (o : OutFrame) : Nat :=
  match o.origin with
  | .ownFragment _ _ _ _ | .ownTile => 4
  | .ownCycle _ | .ownProbe => 2
  | .transit | .ownTrip => if o.frame.kind == Kind.trip then 1 else if o.frame.kind == Kind.cycle then 2 else 3

/-- Bytes of the transit FIFO that are reserved (R13). -/
def Fibre.fifoUsed (f : Fibre) : Nat :=
  ((f.waiting.filter OutFrame.isTransit).map fun o => o.frame.size).sum + (f.tx.map Transmission.fifoBytes).getD 0

/-- A transit frame of `n` bytes is taken into the FIFO (R13). -/
def Fibre.admits (f : Fibre) (n : Nat) : Bool := f.fifoUsed + n ≤ Config.fifoBytes

/-- The bytes of an outgoing frame as they leave: those its header declares, cut at the bytes sent onward, with the received CRC
where that goes on, else the one computed over them (R4, R6, R184). -/
def OutFrame.sentBytes (o : OutFrame) : List Byte :=
  (coveredBytes o.frame ++ o.crc.getD (crcBytes (coveredBytes o.frame))).take o.bytes

/-- The frame goes on as `g`: when `g` differs from it the CRC sent is computed anew (R4, R184). -/
def OutFrame.carrying (o : OutFrame) (g : Frame) : OutFrame :=
  if g = o.frame then o else { o with frame := g, changed := true, crc := none }

/-- The transmitter is free and nothing is waiting (R12). -/
def Fibre.free (f : Fibre) : Bool := f.link == .locked && f.tx.isNone && f.waiting.isEmpty

/-- The frame in transmission was taken at once at this very tick, and `o` is of a more urgent class: the two were presented to the
free transmitter at one instant (R12; log entry 75). -/
def Fibre.yields (f : Fibre) (now : Word) (o : OutFrame) : Bool :=
  f.link == .locked && f.tx.any fun x => x.presented == some now && o.cls < x.out.cls

/-- The instant at which a transmission ends. -/
def Transmission.ends (x : Transmission) : Word := later x.start (frameTicks x.out.bytes)

/-- What the neighbour has been sent of a transmission cut at `now`, two bytes a tick; `none` when it has not begun to leave (R22). -/
def Transmission.cut (x : Transmission) (now : Word) (c : SentClose) : Option SentFrame :=
  if sdiff now x.start < 0 then none else some ⟨x.out, min x.out.bytes (2 * (sdiff now x.start).toNat), c⟩

/-- An own TRIP frame that its builder presented at `now`, or presented again (R11), and that began to leave at that very tick: on an
entry into PASSIVE at that instant it is discarded with the frames waiting (R123, R28; log entry 113). -/
def Transmission.builtAt (x : Transmission) (now : Word) : Bool :=
  x.out.origin == .ownTrip && x.start == now && (x.presented == some now || x.out.due == now)

/-- The transmission that an entry into PASSIVE at `now` leaves (R28, R123). -/
def Fibre.leaving (f : Fibre) (now : Word) : Option Transmission := f.tx.filter fun x => !x.builtAt now

/-- The frame that left the port last, when a reset cuts the transmission in progress (R22). -/
def Fibre.cutShort (f : Fibre) (now : Word) (c : SentClose) : Option SentFrame :=
  ((f.leaving now).bind fun x => x.cut now c).or f.sent

/-- The transit drop count rises by one, saturating (R9). -/
def State.drop (s : State) : State := s.onFpf fun x => { x with drops := min 65535 (x.drops + 1) }

/-- Nothing is staged from the frame being received, when `now` is its header instant: it has been discarded at its header (R13, R52). -/
def Reception.unstagedAt (r : Reception) (now : Word) : Reception :=
  if now = later r.arrival 3 then { r with write := none, conflict := false } else r

/-- A frame is discarded that had left at once and gave way (R9, R13). A cycle frame copy that it comes from is not written into when
this is its header instant (R52; log entry 98); after it R53 and R54 go by the close alone. -/
def State.discard (s : State) (o : OutFrame) : State :=
  match o.incoming with
  | some q => s.drop.onFibre q fun f => { f with rx := f.rx.map fun r => r.unstagedAt s.tick }
  | none => s.drop

/-- The later of two ticks. -/
def latest (x y : Word) : Word := if sdiff x y ≤ 0 then y else x

/-- The earlier of two ticks. -/
def earlier (x y : Word) : Word := if sdiff x y ≤ 0 then x else y

/-- The return timeout of a cycle frame copy that departs at `t` (R39); none for a RESTART frame (R35). A copy that departs after the
next boundary, or in PROBING, gets one all the same, capped at the boundary placed by then (log entry 79). -/
def State.returnTimer (s : State) (f : Frame) (t : Word) : Option ReturnTimer :=
  if f.restart then none
  else some ⟨t, earlier (later t (s.delay + frameTicks f.size + s.ctn.limits.returnMargin)) s.ctn.next, true⟩

/-- What the line node records when the start delimiter of an own frame departs (R29, R37). -/
def State.departed (s : State) (o : OutFrame) (t : Word) : State :=
  match o.origin with
  | .ownCycle .a => s.onLine fun l => { l with returnA := s.returnTimer o.frame t }
  | .ownCycle .b => s.onLine fun l => { l with returnB := s.returnTimer o.frame t }
  | .ownProbe => s.onLine fun l => { l with flight := l.flight.map fun x => { x with departure := some t } }
  | .transit | .ownTrip | .ownFragment _ _ _ _ | .ownTile => s

/-- What `departed` records is withdrawn: the frame has not left after all (R12). -/
def State.recalled (s : State) (o : OutFrame) : State :=
  match o.origin with
  | .ownCycle .a => s.onLine fun l => { l with returnA := none }
  | .ownCycle .b => s.onLine fun l => { l with returnB := none }
  | .ownProbe => s.onLine fun l => { l with flight := l.flight.map fun x => { x with departure := none } }
  | .transit | .ownTrip | .ownFragment _ _ _ _ | .ownTile => s

/-- Port `p` starts sending a frame at `t`, which holds `fifo` bytes of the FIFO; `presented` is the tick of its presentation when
it is taken at once. -/
def State.transmit (s : State) (p : FibrePort) (o : OutFrame) (t : Word) (fifo : Nat) (presented : Option Word) : State :=
  (s.onFibre p fun f => { f with tx := some ⟨o, t, fifo, presented⟩ }).departed o t

/-- A frame that could leave at `t` joins the frames waiting at port `p`. -/
def State.enqueue (s : State) (p : FibrePort) (o : OutFrame) (t : Word) : State :=
  s.onFibre p fun f => { f with waiting := f.waiting ++ [{ o with due := t }] }

/-- A frame that must wait at port `p`: a transit frame needs room in the FIFO (R13), an own TRIP frame a place among 32 (R114). -/
def State.await (s : State) (p : FibrePort) (o : OutFrame) (t : Word) : State :=
  match o.origin with
  | .transit => if (s.fibre p).admits o.frame.size then s.enqueue p o t else s.drop
  | .ownTrip =>
    if ((s.fibre p).waiting.filter fun w => w.origin == .ownTrip).length < Config.ownTripLimit then s.enqueue p o t else s
  | .ownCycle _ | .ownProbe | .ownFragment _ _ _ _ | .ownTile => s.enqueue p o t

/-- A frame that has not left after all waits as the first of its class (R12), a transit frame within the FIFO (R13). -/
def State.putBack (s : State) (p : FibrePort) (x : Transmission) : State :=
  let s := s.recalled x.out
  if x.out.isTransit && !(s.fibre p).admits x.out.frame.size then s.discard x.out
  else s.onFibre p fun f => { f with waiting := { x.out with due := x.start } :: f.waiting }

/-- The frame in transmission gives way to a more urgent one presented at the same instant: it has not left. An own FRAGMENT or TILE
frame goes back to its builder, which considers it again (R14); any other waits (R12; log entry 75). -/
def State.giveWay (s : State) (p : FibrePort) : State :=
  match (s.fibre p).tx with
  | some x =>
    let s := s.onFibre p fun f => { f with tx := none }
    match x.out.origin with
    | .ownFragment h id _ first => s.fragmentWithdrawn h id first x.out.frame.size
    | .ownTile => (match x.out.frame.body with
      | .tile t => s.tileWithdrawn t.postSeq x.out.frame.size
      | .cycle _ | .probe _ | .trip _ | .fragment _ | .other _ => s)
    | .transit | .ownTrip | .ownCycle _ | .ownProbe => s.putBack p x
  | none => s

/-- A frame is presented to the arbiter of port `p` at `t` (R12): it leaves at once from a free transmitter, and goes before a less
urgent frame presented to it at this same tick; of two frames of one class the one presented first leaves (log entry 75). -/
def State.present (s : State) (p : FibrePort) (o : OutFrame) (t : Word) : State :=
  if (s.fibre p).free then s.transmit p o t 0 (some s.tick)
  else if (s.fibre p).yields s.tick o then (s.giveWay p).transmit p o t 0 (some s.tick)
  else s.await p o t

/-- A frame whose output port is `o.chosen` is presented there, or wrapped to the other port when it is down, or discarded
when it has been wrapped twice (R10, R9). What was staged from it at its header stays for its close (R53, R54). -/
def State.sendOut (s : State) (o : OutFrame) (t : Word) : State :=
  if (s.fibre o.chosen).link == .locked then s.present o.chosen o t
  else match o.frame.turned with
    | some f => s.present o.chosen.other (o.carrying f) t
    | none => s.drop

/-- The own FRAGMENT or TILE frame that gives way to a frame to be sent out has given way, so that the section of that frame counts its
bytes as waiting (R12, R49, R154). -/
def State.clearedFor (s : State) (o : OutFrame) : State :=
  let p := if (s.fibre o.chosen).link == .locked then o.chosen else o.chosen.other
  if (s.fibre p).yields s.tick o && (s.fibre p).tx.any (fun x => x.out.cls == 4) then s.giveWay p else s

/-- A frame of the node's own as its builder presents it. -/
def ownFrame (f : Frame) (origin : Origin) (out : FibrePort) : OutFrame :=
  ⟨f, origin, out, none, false, false, none, f.size, 0⟩

/-- The first waiting frame of the most urgent class that has one, and the others (R12). -/
def pickFirst (ws : List OutFrame) : Option (OutFrame × List OutFrame) :=
  let best := ws.foldl (fun n o => min n o.cls) 4
  match ws.find? (fun o => o.cls == best), ws.findIdx? (fun o => o.cls == best) with
  | some o, some i => some (o, ws.eraseIdx i)
  | _, _ => none

/-- A free transmitter takes its next waiting frame at `t` (R12); a transit frame leaves no earlier than 96 ticks after it
came (R6). -/
def State.pickNext (s : State) (p : FibrePort) (t : Word) : State :=
  let f := s.fibre p
  if f.link == .locked && f.tx.isNone then
    match pickFirst f.waiting with
    | some (o, rest) =>
      (s.onFibre p fun f => { f with waiting := rest }).transmit p o (latest t o.due)
        (if o.isTransit then o.frame.size else 0) none
    | none => s
  else s

/-! ## Closing of a received frame -/

/-- A frame passing through, when the frame it came from closes: `bad` is `none` for a good close, else the number of bytes
received; `crc` is the CRC received in a bad one, which goes on in an unchanged frame (R4, R6, R184). -/
def OutFrame.closed (o : OutFrame) (p : FibrePort) (bad : Option Nat) (crc : Option (List Byte)) : OutFrame :=
  if o.incoming == some p then
    { o with incoming := none, stomped := o.stomped || bad.isSome, bytes := min o.bytes (bad.getD o.bytes)
             crc := if o.changed then none else crc }
  else o

/-- The frames a port sends on or holds, when the frame being received at port `p` closes. -/
def Fibre.closeOnward (f : Fibre) (p : FibrePort) (bad : Option Nat) (crc : Option (List Byte)) : Fibre :=
  { f with tx := f.tx.map fun x => { x with out := x.out.closed p bad crc }
           waiting := f.waiting.map fun o => o.closed p bad crc }

/-- The frame being received at port `p` closes: its onward copy is closed with the end or the stomp delimiter (R4, R6),
and what was staged is gone (R5). -/
def State.closeFrame (s : State) (p : FibrePort) (bad : Option Nat) (crc : Option (List Byte)) : State :=
  (s.onFpf fun x => { x with a := x.a.closeOnward p bad crc, b := x.b.closeOnward p bad crc }).onFibre p
    fun f => { f with rx := none }

/-! ## A port leaves or enters LOCKED -/

/-- The frame without the flags that a wrap sets, as its builder built it. -/
def unturned (f : Frame) : Frame := { f with flags := clearBit (clearBit f.flags 7) 6 }

/-- A frame that waited at a port gone down is presented again: a transit frame is wrapped, an own frame goes back to its
builder, which presents it again (R11). `down` is the port that went down. -/
def State.represent (s : State) (down : FibrePort) (o : OutFrame) : State :=
  if o.isTransit then s.sendOut { o with chosen := down } (latest s.tick o.due)
  else s.sendOut { o with frame := unturned o.frame, changed := false } s.tick

/-- Bytes received at port `p` of the frame being received, two a tick (00_scope.md, byte time); `none` when no frame is. -/
def State.receivedSoFar (s : State) (p : FibrePort) : Option Nat :=
  (s.fibre p).rx.map fun r => 2 * (sdiff s.tick r.arrival).toNat

/-- Port `p` has left LOCKED (R11, R19, R1): the frame being received is closed short, waiting frames are presented again,
transit frames first, the error count is 255 and RING_CHANGE is raised. A PROBE or an own FRAGMENT in reception is gone with it, unless
BAD_FRAME_CLOSE came first: the order of the commands is the model's choice (log entry 96). -/
def State.portDown (s : State) (p : FibrePort) : State :=
  let s := s.closeFrame p (s.receivedSoFar p) none
  let waiting := (s.fibre p).waiting
  let s := s.onFibre p fun f => { f with waiting := [], errors := 255 }
  let s := (waiting.filter OutFrame.isTransit).foldl (fun s o => s.represent p o) s
  let s := (waiting.filter fun o => !o.isTransit).foldl (fun s o => s.represent p o) s
  s.raiseDrive .ringChange

/-- Port `p` enters LOCKED (R1, R11, R12): lock error count 0, RING_CHANGE, and a frame that waits there may leave. -/
def State.portLocked (s : State) (p : FibrePort) : State :=
  let s := s.onFibre p fun f => { f with link := .locked, idles := Config.idlesToLock, lockErrors := 0 }
  (s.raiseDrive .ringChange).pickNext p s.tick

/-- A port without the node's own frames that wait there (R28), and without an own TRIP frame built at this instant (R123). -/
def Fibre.withoutOwn (f : Fibre) (now : Word) : Fibre :=
  { f with tx := f.leaving now, waiting := f.waiting.filter OutFrame.isTransit }

/-- The node's own frames waiting at port `p` are discarded; where that frees the transmitter, it takes a transit frame that came behind
the TRIP frame discarded (R12; log entry 113). -/
def State.discardOwnAt (s : State) (p : FibrePort) : State :=
  let freed := (s.fibre p).tx.any fun x => x.builtAt s.tick
  (s.onFibre p fun f => f.withoutOwn s.tick).when freed fun s => s.pickNext p s.tick

/-- The node's own frames waiting at the arbiters are discarded (R28, R123). -/
def State.discardOwn (s : State) : State := (s.discardOwnAt .a).discardOwnAt .b

end Sys2Proof.Machine
end

