-- ==== Sys2Proof/Machine/Trips.lean ====
section
/-! DEFINITION. The trip unit: sources, latches, the local summary, TRIP frames, remote records, the effective class and what a
change of it does to the axes and the triggers (chapter 6; R99, R131). -/

namespace Sys2Proof.Machine

/-! ## Sources (R105) -/

def Source.driveStale : Fin 26 := 20
def Source.lineLost : Fin 26 := 21
def Source.lineJump : Fin 26 := 22

/-- DRIVE_STALE (R104). -/
def State.driveStale (s : State) : Bool :=
  s.ctn.limits.driveRead ≤ s.reads && s.ctn.state == .run && s.axe.axes.list.any fun x => x.ctxA.mode == .follow

/-- LINE_LOST (R45). -/
def State.lineLost (s : State) : Bool := s.ctn.limits.holdover < s.ctn.fol.holdover

/-- Whether a source is active, from its owner's state (R105). -/
def State.sourceActive (s : State) (i : Fin 26) : Bool :=
  if h : i.val < 4 then (s.tru.filters.get ⟨i.val, h⟩).filtered
  else if i.val < 12 then s.tru.driveCodes.getLsbD (i.val - 4)
  else if i.val < 20 then s.tru.panelCodes.getLsbD (i.val - 12)
  else if i.val = 20 then s.driveStale
  else if i.val = 21 then s.lineLost
  else if i.val = 22 then s.lu.jump
  else if i.val = 23 then s.ctn.limits.degrade ≤ s.fpf.a.published
  else if i.val = 24 then s.ctn.limits.degrade ≤ s.fpf.b.published
  else s.axe.axes.list.any Axis.trimLimit

/-! ## Severity (chapter 6, opening) -/

/-- The more severe of two classes; 0 ranks below all. -/
def severer (x y : Nat) : Nat := if x = 0 then y else if y = 0 then x else min x y

/-- Class `x` is more severe than class `y`. -/
def moreSevere (x y : Nat) : Bool := x != 0 && (y == 0 || x < y)

/-- The latched entries, in index order. -/
def TripUnit.latchedEntries (t : TripUnit) : List TripEntry :=
  (t.entries.list.filterMap id).filter TripEntry.latch

/-- The remote records in use at a node of address `own`: the record of its own address is not used (section 6.4). -/
def TripUnit.remoteInUse (t : TripUnit) (own : Byte) : List RemoteTrip :=
  (List.finRange 48).filterMap fun i => if indexAddress i = own then none else t.remote.get i

/-- Class and zones of every trip known to the node of address `own`: its latched entries and its remote records. -/
def TripUnit.known (t : TripUnit) (own : Byte) : List (Nat × Half) :=
  (t.latchedEntries.map fun e => (e.cls, e.zones)) ++ (t.remoteInUse own).map fun r => (r.cls, r.zones)

/-- The most severe class among the trips known at `own` whose zones meet a mask. -/
def TripUnit.classIn (t : TripUnit) (own : Byte) (zones : Half) : Nat :=
  (((t.known own).filter fun x => meets x.2 zones).map Prod.fst).foldl severer 0

/-- The line trip class: the most severe of class 1 or 2 in the line zones, else 0 (R71). -/
def State.lineClass (s : State) : Nat :=
  let c := s.tru.classIn s.ctn.config.address s.ctn.config.lineZones
  if c ≤ 2 then c else 0

/-- The local trip summary's class (R113). -/
def TripUnit.summaryClass (t : TripUnit) : Nat := (t.latchedEntries.map TripEntry.cls).foldl severer 0
/-- The local trip summary's zones (R113). -/
def TripUnit.summaryZones (t : TripUnit) : Half :=
  ((t.latchedEntries.filter fun e => e.cls == t.summaryClass).map TripEntry.zones).foldl (· ||| ·) 0
/-- The local trip summary's cause; 255 for none (R113, R105). -/
def TripUnit.summaryCause (t : TripUnit) : Byte :=
  match (t.latchedEntries.filter fun e => e.cls == t.summaryClass).head? with
  | some e => byteOf e.source.val 0
  | none => 0xFF

/-! ## What a change of the effective class does -/

/-- A frozen record: S from the values in force, W = 0 (R94). -/
def Axis.standing (a : Axis) : Pos := a.q + BitVec.ofInt 48 (a.o + a.t)

/-- A prepared gear step becomes a freeze, and a prepared re-phase keeps its Q with the slews withdrawn (R99). PHASE_LOST and
SLEWING prepared with a withdrawn gear step do not come into force (log entry 84). -/
def Axis.amended (a : Axis) : Axis :=
  match a.prepared with
  | some x =>
    match x.kind with
    | .gear => { a with prepared := none }
    | .rePhase => { a with prepared := some { x with o := a.o, t := a.t } }
    | .engage => a
  | none => a

/-- The record of the back set that goes with an amended step (R99). -/
def Axis.amendedRecord (a : Axis) (r : SetpointRecord) : SetpointRecord :=
  match a.prepared with
  | some x =>
    match x.kind with
    | .gear => { r with s := a.standing, w := 0 }
    | .rePhase => { r with s := x.q + BitVec.ofInt 48 (a.o + a.t), w := 0 }
    | .engage => r
  | none => r

/-- A published record carrying VALID gets TORQUE_OFF and W = 0 (R99). -/
def SetpointRecord.amended (r : SetpointRecord) : SetpointRecord :=
  if r.valid then { r with torqueOff := true, w := 0 } else r

/-- The effective class becomes 1 (R99). -/
def AxisEngine.torqueOff (x : AxisEngine) : AxisEngine :=
  { x with published := x.published.map SetpointRecord.amended
           back := x.back.map fun t => t.mapIdx fun i r => (x.axes.get i).amendedRecord r
           axes := x.axes.map Axis.amended }

/-- A class meets a threshold (section 7.4). -/
def classMeets (c threshold : Nat) : Bool := c != 0 && c ≤ threshold

/-- An ON_TRIP entry's mark at a change of the effective class (R131). -/
def Trigger.onClass (t : Trigger) (old new : Nat) : Trigger :=
  match t.mode, t.mark with
  | .onTrip, .idle => if !classMeets old t.threshold && classMeets new t.threshold then { t with mark := .due } else t
  | .onTrip, .done => if !classMeets new t.threshold then { t with mark := .idle } else t
  | .onTrip, .due => t
  | .angle, _ => t

/-- The effective class is recomputed; a change is acted on at that instant (R119, R120). -/
def State.settleClass (s : State) : State :=
  let old := s.tru.effective
  let new := s.tru.classIn s.ctn.config.address s.ctn.config.membership
  if new = old then s
  else
    let s := (s.onTru fun t => { t with effective := new }).raiseTripChange
    let s := s.when (old == 0) State.raiseTripActive
    let s := s.when (new == 1) fun s => s.onAxe AxisEngine.torqueOff
    s.onTgu fun g => { g with triggers := g.triggers.map fun t => t.onClass old new }

/-! ## Latches (R109) and TRIP frames (R114) -/

/-- The entry that watches a source. -/
def TripUnit.entryOf (t : TripUnit) (i : Fin 26) : Option (Fin 32 × TripEntry) :=
  (List.finRange 32).findSome? fun k =>
    match t.entries.get k with
    | some e => if e.source = i then some (k, e) else none
    | none => none

/-- The latch follows its source (R109). -/
def TripEntry.follow (e : TripEntry) (active : Bool) : TripEntry :=
  match e.mode with
  | .latched => { e with latch := e.latch || active }
  | .following => { e with latch := active }

/-- The body of the TRIP frame of an entry (R114, 12.3). -/
def State.tripBody (s : State) (e : TripEntry) : TripBody :=
  ⟨s.ctn.config.address, s.tru.seq, byteOf e.cls 0, byteOf e.source.val 0, e.zones, s.ctn.cycle⟩

/-- A TRIP frame to all nodes (R114). -/
def State.tripFrameOf (s : State) (e : TripEntry) : Frame :=
  ⟨0xFF, s.ctn.config.address, 14, Kind.trip, 0, .trip (s.tripBody e)⟩

/-- The newly latched entry raises the trip sequence and sends a TRIP frame out of both ports, when it is LATCHED, of class 1
or 2, and the node is in ALIGNED or RUN (R114). -/
def State.announce (s : State) (e : TripEntry) : State :=
  if e.mode == .latched && e.cls ≤ 2 && s.cycling then
    let s := s.onTru fun t => { t with seq := t.seq + 1 }
    let f := s.tripFrameOf e
    (s.sendOut (ownFrame f .ownTrip .a) s.tick).sendOut (ownFrame f .ownTrip .b) s.tick
  else s

/-- The change of one source is handed over: its entry's latch follows it (R105, R109). -/
def State.handSource (s : State) (i : Fin 26) : State :=
  let now := s.sourceActive i
  let s := s.onTru fun t => { t with active := t.active.set i now }
  match s.tru.entryOf i with
  | some (k, e) =>
    let e' := e.follow now
    let s := s.onTru fun t => { t with entries := t.entries.set k (some e') }
    if !e.latch && e'.latch then s.announce e' else s
  | none => s

/-- The sources whose state differs from the one last handed over. -/
def State.changedSources (s : State) : List (Fin 26) :=
  (List.finRange 26).filter fun i => s.sourceActive i != s.tru.active.get i

/-- More than one of the sources would send a TRIP frame at this instant. -/
def State.severalAnnounce (s : State) (is : List (Fin 26)) : Bool :=
  1 < (is.filter fun i => s.sourceActive i && match s.tru.entryOf i with
    | some (_, e) => e.mode == .latched && e.cls ≤ 2 && !e.latch && s.cycling
    | none => false).length

/-- Every change of a source is handed over; entries newly latched at one instant take their sequences in either order
(R114; log entry 12). The effective class is then recomputed (R109, R119), once for all latches that change at this instant, also where
one sets and another clears: the model's choice (log entry 117). -/
def State.settleTrips (s : State) : State :=
  let is := s.changedSources
  if s.severalAnnounce is then
    ((is.mergeSort (Config.latchesBefore s.free)).foldl State.handSource { s with free := s.free + 1 }).settleClass
  else (is.foldl State.handSource s).settleClass

/-! ## Remote records (R115 to R118) -/

/-- Sequence `x` is newer than `y` (R115). -/
def newer (x y : Half) : Bool := 1 ≤ (x - y).toNat && (x - y).toNat ≤ 32767

/-- A record raised to a class, zones and cause (R115). -/
def RemoteTrip.raised (r : RemoteTrip) (cls : Nat) (zones : Half) (cause : Byte) : RemoteTrip :=
  if moreSevere cls r.cls then { r with cls := cls, zones := zones, cause := cause }
  else if cls = r.cls then { r with zones := r.zones ||| zones }
  else r

/-- A TRIP frame is taken for the record of its source (R116). -/
def takeTripFrame (r : Option RemoteTrip) (t : TripBody) : Option RemoteTrip :=
  match r with
  | none => some ⟨t.cls.toNat, t.zones, t.cause, t.seq, t.cycle, false⟩
  | some x =>
    if newer t.seq x.seq then
      some { x.raised t.cls.toNat t.zones t.cause with seq := t.seq, seen := t.cycle, carried := false }
    else some x

/-- A section is taken for the record of its address; `cs` is the copy's cycle number (R117). The class is read from the two
low bits of its byte (log entry 22). -/
def takeTripSection (r : Option RemoteTrip) (x : Section) (cs : Word) : Option RemoteTrip :=
  let cls := x.tripClass.toNat % 4
  let whole : RemoteTrip := ⟨cls, x.tripZones, x.tripCause, x.tripSeq, cs, false⟩
  match r with
  | none => some whole
  | some y =>
    if y.carried then some whole
    else if x.tripSeq = y.seq then some { whole with seen := y.seen }
    else if newer x.tripSeq y.seq then some whole
    else if 2 ≤ sdiff cs y.seen then some whole
    else some (y.raised cls x.tripZones x.tripCause)

/-- A TRIP frame from `source` is taken, and the classes are recomputed (R116). -/
def State.takeTrip (s : State) (source : Byte) (t : TripBody) : State :=
  match addressIndex source with
  | some i =>
    (s.onTru fun u => { u with remote := u.remote.set i (takeTripFrame (u.remote.get i) t) }).settleClass
  | none => s

/-- Records of addresses not in a plan are emptied (R118). -/
def TripUnit.keepPlan (t : TripUnit) (plan : List Byte) : TripUnit :=
  { t with remote := t.remote.mapIdx fun i r => if plan.contains (indexAddress i) then r else none }

/-- Records are marked CARRIED (R118). -/
def TripUnit.markCarried (t : TripUnit) : TripUnit :=
  { t with remote := t.remote.map fun r => r.map fun x => { x with carried := true } }

/-! ## The LINE_LOST latch (R77) -/

/-- The entry whose source is LINE_LOST. -/
def TripUnit.lineLostEntry (t : TripUnit) : Option TripEntry := (t.entryOf Source.lineLost).map Prod.snd

/-- The LINE_LOST latch holds (R77). -/
def State.lineLostLatch (s : State) : Bool :=
  match s.tru.lineLostEntry with
  | some e => e.mode == .latched && e.latch
  | none => false

/-- The release of the LINE_LOST latch re-marks the window's feeds and sets PHASE_LOST on every axis in FOLLOW, in force and
in a gear step prepared for it (R78; log entry 39). -/
def State.releaseLineLost (s : State) : State :=
  (s.onLu fun l => { l with window := l.window.map fun x =>
      match x.origin with
      | .received => { x with feed := true }
      | .extrapolated => { x with feed := false }
      | .generated => x }).onAxe
    fun x => { x with axes := x.axes.map fun a =>
      if a.ctxA.mode == .follow then
        { a with phaseLost := true
                 prepared := a.prepared.map fun y => if y.kind == .gear then { y with phaseLost := true } else y }
      else a }

end Sys2Proof.Machine
end

