-- ==== Sys2Proof/Machine/Line.lean ====
section
/-! DEFINITION. The line unit: generation at the line node, intake, extrapolation and resynchronisation at a follower
(chapter 4). -/

namespace Sys2Proof.Machine

/-- `P + V` modulo 2^48 with V signed (R70, R74). -/
def advance (p : Pos) (v : Int) : Pos := p + BitVec.ofInt 48 v

/-! ## Generation (R69 to R72) -/

/-- The step target when no line trip is active: V*, or 0 while V has the opposite sign (R69). -/
def stepTarget (v target : Int) : Int := if (0 < v ∧ target < 0) ∨ (v < 0 ∧ 0 < target) then 0 else target

/-- The new speed for a line trip class (R69, R70). -/
def nextSpeed (l : LineLimits) (cls : Nat) (v target : Int) : Int :=
  if cls = 1 then 0
  else if cls = 2 then moveToward v 0 l.aTrip
  else
    let goal := stepTarget v target
    if v.natAbs < goal.natAbs then moveToward v goal l.aUp
    else if goal.natAbs < v.natAbs then moveToward v goal l.aDn
    else v

/-- The line state of a generated sample (R71). -/
def generatedState (cls : Nat) (v target : Int) : LineState :=
  if cls = 1 then .tripHold
  else if cls = 2 then (if v = 0 then .tripHold else .tripRamp)
  else if v = 0 ∧ target = 0 then .halt else .moving

/-- The sample generated from sample `x` (R69 to R71): `target` is V* as this generation leaves it. -/
def generatedSample (l : LineLimits) (cls : Nat) (target : Int) (x : Sample) : Sample :=
  let v := nextSpeed l cls x.v.toInt target
  ⟨x.boundary + 1, advance x.p v, BitVec.ofInt 32 v, generatedState cls v target, .generated, true⟩

/-- The generation of a boundary: from the latest sample, V*, the limits and the line trip class (R69 to R71). -/
def State.generate (s : State) : State :=
  let cls := s.lineClass
  let target := if cls = 0 then s.lu.target else 0
  match s.lu.latest with
  | some x =>
    let y := generatedSample s.lu.limits cls target x
    s.onLu fun l => { l.add y with target := target, seed := y.p }
  | none => s.onLu fun l => { l with target := target }

/-- A seed sample (R72). -/
def State.seedSample (s : State) (b : Word) : Sample :=
  ⟨b, s.lu.seed, 0, if s.lineClass = 0 then .halt else .tripHold, .generated, true⟩

/-- The window is seeded for boundaries 0 and 1 (R72). -/
def State.seedWindow (s : State) : State :=
  s.onLu fun l => { l with window := [s.seedSample 0, s.seedSample 1] }

/-! ## Follower (R73 to R76) -/

/-- The jump of a received position from the prediction, read as signed (R76). -/
def jumpFrom (prev : Sample) (p : Pos) : Int := (p - advance prev.p prev.v.toInt).toInt

/-- A received sample is taken: added unless its boundary number is held (R73), with feed NO while the LINE_LOST latch holds
(R77), and compared when it follows an extrapolated one (R76). -/
def State.takeSample (s : State) (c : CycleBody) : State :=
  if (s.lu.sample c.sampleBoundary).isSome then s
  else
    let x : Sample :=
      ⟨c.sampleBoundary, c.sampleP, c.sampleV, lineStateOf c.lineState, .received, !s.lineLostLatch⟩
    match s.lu.sample (c.sampleBoundary - 1) with
    | some prev =>
      if prev.origin == .extrapolated then
        let d := jumpFrom prev c.sampleP
        s.onLu fun l => { l.add x with lastJump := d, jump := s.ctn.limits.resync < d.natAbs }
      else s.onLu fun l => { l.add x with jump := false }
    | none => s.onLu fun l => { l.add x with jump := false }

/-- The LINE_LOST class in force for an extrapolation, 0 for none (R75). -/
def State.lineLostClass (s : State) : Nat :=
  match s.tru.lineLostEntry with
  | some e =>
    if meets e.zones s.ctn.config.membership && (s.lineLost || e.latch) then e.cls else 0
  | none => 0

/-- The extrapolated sample that follows `x` under a LINE_LOST class (R74, R75). -/
def extrapolated (aLocal : Nat) (cls : Nat) (x : Sample) : Sample :=
  let v := if cls = 1 then 0 else if cls = 2 then moveToward x.v.toInt 0 aLocal else x.v.toInt
  let st := if cls = 1 then .tripHold else if cls = 2 then (if v = 0 then .tripHold else .tripRamp) else x.state
  ⟨x.boundary + 1, advance x.p x.v.toInt, BitVec.ofInt 32 v, st, .extrapolated, true⟩

/-- A missed cycle `k` adds the extrapolated sample for boundary k + 2, when the window holds the one before it and not
already that one (R74, R65). -/
def State.extrapolate (s : State) (k : Word) : State :=
  match s.lu.sample (k + 1) with
  | some x =>
    if (s.lu.sample (k + 2)).isSome then s
    else
      let y := extrapolated s.lu.limits.aLocal s.lineLostClass x
      s.onLu fun l => { l.add y with jump := false }
  | none => s

/-- The window is emptied (R65). -/
def State.emptyWindow (s : State) : State := s.onLu fun l => { l with window := [] }

end Sys2Proof.Machine
end

