-- ==== Sys2Proof/Machine/AxisWork.lean ====
section
/-! DEFINITION. The axis engine's work at a boundary: publication, the switch, and the compute event (chapter 5; R140). -/

namespace Sys2Proof.Machine

/-! ## TRIM_LIMIT (R140) -/

/-- TRIM_LIMIT settled from T* and L of context A. -/
def Axis.settleTrim (a : Axis) : Axis :=
  { a with trimLimit := a.tStar.natAbs == a.ctxA.limit && 0 < a.ctxA.limit }

/-! ## The switch (R84 to R88) -/

/-- The mode drives the axis. -/
def AxisMode.engaged (m : AxisMode) : Bool := m == .follow || m == .hold

/-- N or D of context B differs from that of context A. -/
def Axis.gearChanges (a : Axis) : Bool := a.ctxA.num != a.ctxB.num || a.ctxA.den != a.ctxB.den

/-- The switch is refused as a gear change while moving (R85). -/
def Axis.refusesSwitch (a : Axis) (moving : Bool) : Bool :=
  a.ctxA.mode.engaged && a.ctxB.mode.engaged && a.gearChanges && moving

/-- The switch is an engagement (R86, R87). -/
def Axis.switchEngages (a : Axis) : Bool := a.ctxA.mode == .off && a.ctxB.mode.engaged

/-- Context B is taken (R86): R returns to 0 on a gear change, T and T* are clamped when L shrinks, TRIM_LIMIT is settled when
L changes. -/
def Axis.switched (a : Axis) : Axis :=
  let old := a.ctxA
  let a := { a with ctxA := a.ctxB, r := if a.gearChanges then 0 else a.r }
  let l : Int := a.ctxA.limit
  let a := if a.ctxA.limit < old.limit then { a with t := clamp (-l) l a.t, tStar := clamp (-l) l a.tStar } else a
  if a.ctxA.limit ≠ old.limit then a.settleTrim else a

/-- The line moves over a pair (R85). -/
def pairMoves (x y : Sample) : Bool := x.v != 0 || y.v != 0

/-- What a switch compute event decides for an axis. -/
inductive SwitchOutcome
  | none | refused | switched
  deriving DecidableEq, Repr

/-- The outcome for axis `i` (R84, R85); `due` says that this is a switch compute event with its pair available. -/
def AxisEngine.switchOutcome (x : AxisEngine) (due moving : Bool) (i : Fin 8) : SwitchOutcome :=
  if due && x.commit.getLsbD i then
    (if (x.axes.get i).refusesSwitch moving then .refused else .switched)
  else .none

/-! ## The step of one axis (R87, R89 to R95) -/

/-- The geared position and remainder of an absolute line position (R87). -/
def absoluteQ (c : AxisContext) (p : Pos) : Pos := BitVec.ofInt 48 ((p.toNat * c.num) / (c.den : Int))
def absoluteR (c : AxisContext) (p : Pos) : Nat := ((p.toNat * c.num) % (c.den : Int)).toNat

/-- One move of a slew; 0 means no limit (R92). -/
def slewed (x target : Int) (limit : Nat) : Int := if limit = 0 then target else moveToward x target limit

/-- W saturated to ±(2^31 − 1) (R93). -/
def saturated (w : Int) : Int := clamp (-2147483647) 2147483647 w

/-- The line travel of a pair (R90). -/
def travel (x y : Sample) : Int := (y.p - x.p).toInt

/-- The dividend of a gear step (R91). -/
def Axis.dividend (a : Axis) (x y : Sample) : Int := travel x y * a.ctxA.num + a.r

/-- A gear step for the pair (x, y) (R90 to R92). -/
def Axis.gearStep (a : Axis) (x y : Sample) : PreparedStep :=
  let q := a.dividend x y / (a.ctxA.den : Int)
  let o := slewed a.o a.ctxA.oTarget a.ctxA.oSlew
  let t := slewed a.t a.tStar a.ctxA.tSlew
  { kind := .gear
    quotient := q
    q := a.q + BitVec.ofInt 48 q
    r := (a.dividend x y % (a.ctxA.den : Int)).toNat
    o := o
    t := t
    anchor := y.p
    phaseLost := a.phaseLost || a.anchor != some x.p
    slewing := o != a.ctxA.oTarget || t != a.tStar }

/-- An engagement at sample `y` (R87). -/
def Axis.engageStep (a : Axis) (y : Sample) : PreparedStep :=
  { kind := .engage
    quotient := 0
    q := absoluteQ a.ctxA y.p
    r := absoluteR a.ctxA y.p
    o := a.ctxA.oTarget
    t := 0
    anchor := y.p
    phaseLost := false
    slewing := false }

/-- A re-phase at sample `y`; `still` says that the axis is in HOLD or frozen, so that its slews do not advance (R95). -/
def Axis.rePhaseStep (a : Axis) (y : Sample) (still : Bool) : PreparedStep :=
  let o := if still then a.o else slewed a.o a.ctxA.oTarget a.ctxA.oSlew
  let t := if still then a.t else slewed a.t a.tStar a.ctxA.tSlew
  { kind := .rePhase
    quotient := 0
    q := absoluteQ a.ctxA y.p
    r := absoluteR a.ctxA y.p
    o := o
    t := t
    anchor := y.p
    phaseLost := false
    slewing := if still then a.slewing else o != a.ctxA.oTarget || t != a.tStar }

/-- The position of a step's record: Q + O + T (R93, R87, R95). -/
def PreparedStep.position (x : PreparedStep) : Pos := x.q + BitVec.ofInt 48 (x.o + x.t)

/-- A record for boundary `b` from its position and velocity sum; flags of the node are settled at the publication (R97). -/
def recordOf (b : Word) (s : Pos) (w : Int) (valid holdover trimLimit slewing phaseLost : Bool) : SetpointRecord :=
  ⟨b, s, saturated w, valid, holdover, false, false, false, trimLimit, slewing, phaseLost, w != saturated w⟩

/-- The record of an axis that prepares no change (R89, R94). -/
def Axis.stillRecord (a : Axis) (b : Word) (valid holdover : Bool) : SetpointRecord :=
  recordOf b a.standing 0 valid holdover a.trimLimit a.slewing a.phaseLost

/-- The record of a prepared step whose velocity sum is `w` (R93). -/
def Axis.stepRecord (a : Axis) (b : Word) (holdover : Bool) (x : PreparedStep) (w : Int) : SetpointRecord :=
  recordOf b x.position w true holdover a.trimLimit x.slewing x.phaseLost

/-- The step and record of one axis for boundary `b` (R89): the first case of the table that applies. `frozen` says that the
effective class is 1. A no-line record has S = Q + O + T, W = 0 and HOLDOVER clear (log entry 83). -/
def Axis.compute (a : Axis) (b : Word) (pair : Option (Sample × Sample)) (engageDue rePhase frozen : Bool) :
    Axis × SetpointRecord :=
  match pair with
  | none => ({ a with prepared := none }, a.stillRecord b false false)
  | some (x, y) =>
    let holdover := x.origin == .extrapolated || y.origin == .extrapolated
    let still := a.ctxA.mode == .hold || frozen || !x.feed || !y.feed
    if a.ctxA.mode == .off then ({ a with prepared := none }, a.stillRecord b false holdover)
    else if engageDue || a.anchor.isNone then
      let a := ({ a with tStar := 0 }).settleTrim
      let step := a.engageStep y
      ({ a with prepared := some step }, a.stepRecord b holdover step 0)
    else if rePhase then
      let step := a.rePhaseStep y still
      ({ a with prepared := some step }, a.stepRecord b holdover step ((step.o - a.o) + (step.t - a.t)))
    else if still then ({ a with prepared := none }, a.stillRecord b true holdover)
    else
      let step := a.gearStep x y
      ({ a with prepared := some step },
        a.stepRecord b holdover step (a.dividend x y / (a.ctxA.den : Int) + (step.o - a.o) + (step.t - a.t)))

/-! ## The compute event (R84, R89) -/

/-- The bits of the axes with a given switch outcome. -/
def outcomeMask (f : Fin 8 → SwitchOutcome) (o : SwitchOutcome) : Byte :=
  BitVec.ofNat 8 (bitsNat ((List.finRange 8).map fun i => f i == o))

/-- The axis as a switch leaves it, and whether it is to be engaged. -/
def Axis.afterSwitch (a : Axis) (o : SwitchOutcome) : Axis × Bool :=
  match o with
  | .switched => (a.switched, a.switchEngages)
  | .none | .refused => (a, false)

/-- The compute event for boundary `b` (R89): the switch of R84, then the step and record of every axis. The effective class is the one
before the event, also where its switch clears the last TRIM_LIMIT of a class 1 FOLLOWING entry (R140): the model's choice (log entry 109). -/
def State.computeEvent (s : State) (b : Word) : State :=
  let pair := s.lu.pair b
  let due := b.toNat % s.superLen == 0 && pair.isSome
  let moving := match pair with
    | some (x, y) => pairMoves x y
    | none => false
  let outcome := s.axe.switchOutcome due moving
  let switchedMask := outcomeMask outcome .switched
  let refusedMask := outcomeMask outcome .refused
  let frozen := s.tru.effective == 1
  let results : Tab (Axis × SetpointRecord) 8 := s.axe.axes.mapIdx fun i a =>
    (a.afterSwitch (outcome i)).1.compute b pair (a.afterSwitch (outcome i)).2 (s.axe.rePhase.getLsbD i) frozen
  let reported := switchedMask != 0 || refusedMask != 0
  let s := s.onAxe fun x => { x with
    axes := results.map Prod.fst
    back := some (results.map Prod.snd)
    commit := if due then 0 else x.commit
    rePhase := if pair.isSome then 0 else x.rePhase
    report := if reported then some ⟨b, switchedMask, refusedMask⟩ else x.report }
  let s := s.when (switchedMask != 0) fun s => s.raiseDrive .commitDone
  s.when (refusedMask != 0) fun s => s.raiseDrive .commitRefused

/-! ## Publication (R98) -/

/-- A prepared step is put in force (R98). -/
def Axis.publish (a : Axis) : Axis :=
  match a.prepared with
  | some x => { a with q := x.q, r := x.r, o := x.o, t := x.t, anchor := some x.anchor, phaseLost := x.phaseLost
                       slewing := x.slewing, prepared := none }
  | none => a

/-- The flags of the node are settled on a record (R97). -/
def State.settleRecord (s : State) (r : SetpointRecord) : SetpointRecord :=
  { r with valid := r.valid && s.ctn.state == .run
           unaligned := s.isFollower && s.ctn.fol.unaligned
           torqueOff := s.tru.effective == 1
           ramp := s.tru.effective == 2 }

/-- The record of an axis when no back set was prepared for the boundary (R98; log entry 29). -/
def Axis.unpreparedRecord (a : Axis) (b : Word) : SetpointRecord :=
  ⟨b, a.standing, 0, false, false, false, false, false, false, false, false, false⟩

/-- The publication of boundary `b` (R98): a back set prepared for another boundary, which a cycle jump leaves, counts as none. -/
def State.publication (s : State) (b : Word) : State :=
  s.onAxe fun x =>
    match x.back.filter fun back => (back.get 0).boundary == b with
    | some back => { x with axes := x.axes.map Axis.publish, back := none, published := back.map s.settleRecord }
    | none => { x with published := x.axes.map fun a => s.settleRecord (a.unpreparedRecord b) }

/-- VALID is cleared in every record of the published set (R100). -/
def AxisEngine.invalidate (x : AxisEngine) : AxisEngine :=
  { x with published := x.published.map fun r => { r with valid := false } }

/-- The back set and every prepared step are discarded (R100). -/
def AxisEngine.discard (x : AxisEngine) : AxisEngine :=
  { x with back := none, axes := x.axes.map fun a => { a with prepared := none } }

end Sys2Proof.Machine
end

