-- ==== Sys2Proof/Machine/TriggerWork.lean ====
section
/-! DEFINITION. The trigger unit's work: interval events, pulse schedules, stamps and their ages (chapter 7). -/

namespace Sys2Proof.Machine

/-! ## Crossing (R127) and fire time (R128) -/

/-- The distance from position `p` forward to the angle `angle`, from 1 to 2^32 (R127, R128). -/
def distanceTo (p : Pos) (angle : Word) : Nat :=
  let d := (angle - p.truncate 32).toNat
  if d = 0 then 2 ^ 32 else d

/-- The repeat number of a position: its upper 16 bits. -/
def repeatOf (p : Pos) : Half := BitVec.ofNat 16 (p.toNat / 2 ^ 32)

/-- An ANGLE entry fires in the interval of travel `delta` from `p`: it crosses, and the crossing repeat is selected (R127). -/
def Trigger.crosses (t : Trigger) (p : Pos) (delta : Int) : Bool :=
  let d := distanceTo p t.angle
  0 < delta && delta < 2 ^ 32 && (d : Int) ≤ delta
    && (repeatOf (p + BitVec.ofNat 48 d)).toNat % t.everyNth == t.phase

/-- The pulse of an ANGLE firing (R128, R130): `l` is the local boundary's tick, `ticks` T_ticks, `delta` the travel. -/
def Trigger.anglePulse (t : Trigger) (i : Nat) (width : Nat) (l : Word) (ticks : Nat) (x : Sample) (delta : Int) : Pulse :=
  let d := distanceTo x.p t.angle
  let tOff := d * ticks / delta.toNat
  let late := tOff < t.lead
  { start := if late then l else later l (tOff - t.lead)
    width := width
    content := ⟨i, t.line.val, x.boundary, tOff, repeatOf (x.p + BitVec.ofNat 48 d), t.angle, BitVec.ofInt 32 delta,
      t.axisMask, late, false⟩
    begun := false }

/-- The pulse of an ON_TRIP firing, at the local boundary itself (R131, R130). -/
def Trigger.tripPulse (t : Trigger) (i : Nat) (width : Nat) (l : Word) (x : Sample) : Pulse :=
  { start := l
    width := width
    content := ⟨i, t.line.val, x.boundary, 0, repeatOf x.p, x.p.truncate 32, x.v, t.axisMask, false, true⟩
    begun := false }

/-! ## Schedules (R129) -/

/-- The spans of two pulses overlap; one that ends as the other starts does not. -/
def Pulse.overlaps (x y : Pulse) : Bool := sdiff y.start x.start < x.width && sdiff x.start y.start < y.width

/-- The line's schedule can take the pulse (R129). -/
def CameraLine.takes (c : CameraLine) (x : Pulse) : Bool :=
  c.schedule.length < Config.scheduleLimit && !c.schedule.any fun y => y.overlaps x

/-- A pulse joins a schedule at its place by start tick. -/
def insertPulse (x : Pulse) : List Pulse → List Pulse
  | [] => [x]
  | y :: ys => if sdiff y.start x.start ≤ 0 then y :: insertPulse x ys else x :: y :: ys

/-- A firing becomes a pulse of line `k`, or is dropped with TRIGGER_COLLISION (R129). -/
def State.firePulse (s : State) (k : Fin 4) (x : Pulse) : State :=
  if (s.tgu.lines.get k).takes x then
    s.onTgu fun g => { g with lines := g.lines.update k fun c => { c with schedule := insertPulse x c.schedule } }
  else s.raisePanel .triggerCollision

/-! ## The interval event (R126, R131) -/

/-- The mark a DUE entry takes when it fires (R131). -/
def Trigger.fired (t : Trigger) (effective : Nat) : Trigger :=
  { t with mark := if classMeets effective t.threshold then .done else .idle }

/-- One entry at the interval event of boundary number `b` at tick `l`. -/
def State.intervalEntry (s : State) (b : Word) (l : Word) (i : Fin 16) : State :=
  let t := s.tgu.triggers.get i
  let width := (s.tgu.lines.get t.line).width
  if !t.enabled then s
  else match t.mode with
    | .angle =>
      match s.lu.pair (b + 1) with
      | some (x, y) =>
        if t.crosses x.p (travel x y) then
          s.firePulse t.line (t.anglePulse i width l s.cycleTicks x (travel x y))
        else s
      | none => s
    | .onTrip =>
      match t.mark, s.lu.sample b with
      | .due, some x =>
        (s.onTgu fun g => { g with triggers := g.triggers.set i (t.fired s.tru.effective) }).firePulse t.line
          (t.tripPulse i width l x)
      | _, _ => s

/-- The interval event: the entries in index order (R126, R129). -/
def State.intervalEvent (s : State) (b : Word) (l : Word) : State :=
  (List.finRange 16).foldl (fun s i => s.intervalEntry b l i) s

/-! ## Stamps (R130, R132, R133) -/

/-- A stamp joins the list (R132). -/
def State.addStamp (s : State) (c : StampContent) : State :=
  let full := Config.stampLimit ≤ s.tgu.stamps.length
  let s := s.onTgu fun g => { g with
    stamps := (if full then g.stamps.drop 1 else g.stamps) ++ [⟨g.nextId, c, false, 0, 0⟩], nextId := g.nextId + 1 }
  (s.when full fun s => s.raisePanel .stampOverrun).raisePanel .stampNew

/-- The first pulse of a schedule that has not begun (R124). -/
def CameraLine.nextPulse (c : CameraLine) : Option Pulse := c.schedule.find? fun x => !x.begun
/-- The pulse in progress. -/
def CameraLine.inProgress (c : CameraLine) : Option Pulse := c.schedule.find? Pulse.begun

/-- The first pulse that has not begun begins. -/
def beginFirst : List Pulse → List Pulse
  | [] => []
  | x :: xs => if x.begun then x :: beginFirst xs else { x with begun := true } :: xs

/-- Ages rise at a local boundary, and stamps at the lifetime leave (R133). -/
def TriggerUnit.ageStamps (g : TriggerUnit) : TriggerUnit :=
  { g with stamps := (g.stamps.map fun x => { x with age := min 255 (x.age + 1) }).filter fun x => x.age < g.lifetime }

/-- The pulse's start tick has come and it has not begun; its width has elapsed. -/
def Pulse.due (x : Pulse) (now : Word) : Bool := !x.begun && sdiff x.start now ≤ 0
def Pulse.elapsed (x : Pulse) (now : Word) : Bool := sdiff (later x.start x.width) now ≤ 0

/-- A line's schedule once the pulses whose start tick has come have begun; those whose width has elapsed leave (R129). -/
def CameraLine.catchUp (c : CameraLine) (now : Word) : CameraLine :=
  { c with schedule :=
      (c.schedule.map fun x => { x with begun := x.begun || x.due now }).filter fun x => !(x.begun && x.elapsed now) }

/-- The pulses whose start tick has come and that no event has begun yet, in order of their start ticks; those of one start
tick in line number order (log entry 92). -/
def TriggerUnit.duePulses (g : TriggerUnit) (now : Word) : List Pulse :=
  ((List.finRange 4).flatMap fun k => (g.lines.get k).schedule.filter fun x => x.due now).foldl (fun xs x => insertPulse x xs) []

/-- Every pulse whose start tick has come has begun, and its stamp is made (R129, R130): a pulse fired at this boundary begins at its
interval event (R128). One whose start tick is the instant at which the node leaves ALIGNED and RUN has begun too (R135; log entry
91). -/
def State.beginDue (s : State) : State :=
  let due := s.tgu.duePulses s.tick
  due.foldl (fun s x => s.addStamp x.content) (s.onTgu fun g => { g with lines := g.lines.map fun c => c.catchUp s.tick })

/-- Pulses not yet started are removed from every schedule (R135). -/
def TriggerUnit.leaveCycling (g : TriggerUnit) : TriggerUnit :=
  { g with lines := g.lines.map fun c => { c with schedule := c.schedule.filter Pulse.begun } }

/-- The mark that Write Trigger or Soft Reset gives an entry under an effective class (R131). -/
def Trigger.setMark (t : Trigger) (effective : Nat) : Trigger :=
  { t with mark := match t.mode with
    | .angle => .idle
    | .onTrip => if classMeets effective t.threshold then .done else .idle }

end Sys2Proof.Machine
end

