-- ==== Sys2Proof/Machine/StripWork.lean ====
section
/-! DEFINITION. The packet store and strip engine's work: send order, fragments, reassembly (chapter 9). -/

namespace Sys2Proof.Machine

/-! ## Descriptors and the send order (R147) -/

/-- The priority of the strip in a descriptor. -/
def PacketStore.priorityAt (u : PacketStore) (h : Fin 16) : Option Priority := (u.descriptors.get h).strip.map Strip.priority

/-- A descriptor joins the send order at the back of its class (R147). -/
def PacketStore.joinBack (u : PacketStore) (h : Fin 16) (p : Priority) : PacketStore :=
  match p with
  | .normal => { u with order := u.order ++ [h] }
  | .alert => { u with order := u.order.filter (fun k => u.priorityAt k == some .alert) ++ [h]
                  ++ u.order.filter (fun k => u.priorityAt k != some .alert) }

/-- A descriptor joins the send order at the front of its class (R147, R151). -/
def PacketStore.joinFront (u : PacketStore) (h : Fin 16) (p : Priority) : PacketStore :=
  match p with
  | .alert => { u with order := h :: u.order }
  | .normal => { u with order := u.order.filter (fun k => u.priorityAt k == some .alert) ++ [h]
                  ++ u.order.filter (fun k => u.priorityAt k != some .alert) }

/-- The transmitter's frame is a fragment of the strip `id` of descriptor `h`. -/
def Fibre.sends (f : Fibre) (h : Fin 16) (id : Half) : Bool :=
  match f.tx with
  | some x =>
    match x.out.origin with
    | .ownFragment k i _ _ => k == h && i == id
    | .transit | .ownTrip | .ownCycle _ | .ownProbe | .ownTile => false
  | none => false

/-- A fragment of the strip is in transmission (R151). -/
def State.fragmentOut (s : State) (h : Fin 16) (id : Half) : Bool := s.fpf.a.sends h id || s.fpf.b.sends h id

/-! ## Lost strips (R152) and closes -/

/-- The strip is ended as lost: at the close of its fragment in transmission, or at once (R152). -/
def State.loseStrip (s : State) (h : Fin 16) (x : Strip) : State :=
  if s.fragmentOut h x.id then s.putStrip h { x with lostDue := true } else s.endStrip h x .lost

/-- A fragment of the strip closes at the transmitter (R153, R151, R152). -/
def State.fragmentClosed (s : State) (h : Fin 16) (id : Half) (last : Bool) : State :=
  match s.strip h with
  | some x => if x.id ≠ id then s else s.fragmentEnds h { x with pages := pagesFor (x.data.length - x.sent) } last
  | none => s

/-- A returning fragment finds that its strip has left the descriptor: LOST is logged once for the kept strip (R152). -/
def State.keptLost (s : State) (h : Fin 16) (id : Half) : State :=
  match (s.pse.descriptors.get h).kept with
  | some k =>
    if k.id = id && !k.lost then
      (s.onPse fun u => { u with descriptors := u.descriptors.update h fun d =>
        { d with kept := some { k with lost := true } } }).logStrip k.id k.stampId .lost
    else s
  | none => s

/-- A returning fragment is handed to the PSE as lost (R152). -/
def State.fragmentLost (s : State) (h : Fin 16) (id : Half) : State :=
  match s.strip h with
  | some x => if x.id = id then s.loseStrip h x else s.keptLost h id
  | none => s.keptLost h id

/-! ## Fragments (R153) -/

/-- The stamp fields of a fragment at an offset other than 0. -/
def FragmentStamp.zero : FragmentStamp := ⟨0, 0, 0, false, false, 0, 0, 0, 0, 0⟩

/-- The stamp fields that the fragment at offset 0 carries (12.3). -/
def fragmentStamp (x : Stamp) : FragmentStamp :=
  ⟨x.id, BitVec.ofNat 4 x.content.entry, BitVec.ofNat 2 x.content.line, x.content.late, x.content.trip,
    x.content.boundary, BitVec.ofNat 24 x.content.tOff, x.content.repeatNo, x.content.angle, x.content.v⟩

/-- The payload of the next fragment. -/
def Strip.nextPayload (x : Strip) : List Byte := (x.data.drop x.sent).take Config.fragmentBytes

/-- The next fragment carries LAST. -/
def Strip.nextIsLast (x : Strip) : Bool := x.declared ≤ x.sent + x.nextPayload.length

/-- The FRAGMENT frame at the strip's bytes sent. -/
def State.fragmentFrame (s : State) (h : Fin 16) (x : Strip) : Frame where
  dest := s.console
  source := s.ctn.config.address
  length := BitVec.ofNat 16 (x.nextPayload.length + 32)
  kind := Kind.fragment
  flags := if x.nextIsLast then 1 else 0
  body := .fragment
    { handle := byteOf h.val 0
      stripId := x.id
      offset := BitVec.ofNat 24 x.sent
      payloadLength := BitVec.ofNat 16 x.nextPayload.length
      declared := if x.sent = 0 then BitVec.ofNat 24 x.declared else 0
      stamp := if x.sent = 0 then fragmentStamp x.stamp else FragmentStamp.zero
      payload := x.nextPayload }

/-- Strips can be sent to the console: it has an address and a route, and is another node (R153, R154). -/
def State.consoleReached (s : State) : Bool :=
  s.console != 0 && s.routeTo s.console != .none && !s.isConsole

/-- The remaining bytes of a strip on the fibre (R154). -/
def Strip.remaining (x : Strip) : Nat :=
  let unsent := x.data.length - x.sent
  unsent + 40 * ((unsent + (Config.fragmentBytes - 1)) / Config.fragmentBytes)

/-- Bytes as units of 64, rounded up and saturated (R154). -/
def demandUnits (n : Nat) : Half := BitVec.ofNat 16 (min 65535 ((n + 63) / 64))

/-- The ALERT or NORMAL demand (R154). -/
def State.stripDemand (s : State) (p : Priority) : Half :=
  if s.consoleReached then
    demandUnits ((s.pse.order.map fun h =>
      match s.strip h with
      | some x => if x.priority == p then x.remaining else 0
      | none => 0).sum)
  else 0

/-- A fragment of descriptor `h` starts: bytes sent and the grant change, and QUEUED becomes SENDING (R153, R155). -/
def State.fragmentStarted (s : State) (h : Fin 16) (size : Nat) : State :=
  let s := s.onPse fun u => { u with grant := u.grant.map fun g => { g with strip := g.strip - size } }
  match s.strip h with
  | some x => s.putStrip h { x with sent := x.sent + x.nextPayload.length, state := .sending }
  | none => s

/-! ## Incoming records (R158, R159) -/

/-- The record with a key. -/
def PacketStore.recordOf (u : PacketStore) (source : Byte) (id : Half) : Option (Fin 32 × StripRecord) :=
  (List.finRange 32).findSome? fun k =>
    match u.records.get k with
    | some r => if r.source = source ∧ r.stripId = id then some (k, r) else none
    | none => none

/-- The lowest-numbered free record. -/
def PacketStore.freeRecord (u : PacketStore) : Option (Fin 32) :=
  (List.finRange 32).find? fun k => (u.records.get k).isNone

/-- Record `k` becomes `r`. -/
def State.putRecord (s : State) (k : Fin 32) (r : StripRecord) : State :=
  s.onPse fun u => { u with records := u.records.set k (some r) }

/-- The strip drop count rises by one, saturating (R158). -/
def State.dropStrip (s : State) : State := s.onPse fun u => { u with drops := min 65535 (u.drops + 1) }

/-- A record leaves ASSEMBLING with STRIP_ARRIVED (R159). -/
def State.settleStripRecord (s : State) (k : Fin 32) (r : StripRecord) (st : RecordState) : State :=
  (s.putRecord k { r with state := st }).raisePanel .stripArrived

/-- The stamp copy made of a fragment's stamp fields (R158). -/
def stampOfFragment (x : FragmentStamp) : Stamp where
  id := x.stampId
  content :=
    { entry := x.entry.toNat, line := x.line.toNat, boundary := x.boundary, tOff := x.tOff.toNat
      repeatNo := x.repeatNo, angle := x.angle, v := x.v, axisMask := 0, late := x.late, trip := x.trip }
  claimed := false
  marked := 0
  age := 0

/-- Bytes of a payload of `n` that a record of `have` bytes can store with `pages` more STRIP pages to be had (R159). -/
def storable (have_ n pages : Nat) : Nat := min n ((pagesFor have_ + pages) * Config.pageBytes - have_)

/-- A fragment is taken by an ASSEMBLING record (R159). -/
def State.extendRecord (s : State) (k : Fin 32) (r : StripRecord) (f : FragmentBody) (last : Bool) : State :=
  if f.offset.toNat ≠ r.data.length then s.settleStripRecord k r .incomplete
  else if r.declared < r.data.length + f.payload.length then s.settleStripRecord k r .incomplete
  else
    let n := storable r.data.length f.payload.length s.stripPagesAvailable
    let data := r.data ++ f.payload.take n
    let r := { r with data := data, pages := pagesFor data.length }
    if n < f.payload.length then s.settleStripRecord k r .incomplete
    else
      let r := { r with lastCycle := s.ctn.cycle }
      if last then s.settleStripRecord k r (if data.length = r.declared then .complete else .incomplete)
      else s.putRecord k r

/-- A FRAGMENT frame delivered to the PSE (R158, R159). -/
def State.takeFragment (s : State) (source : Byte) (f : FragmentBody) (last : Bool) : State :=
  match s.pse.recordOf source f.stripId with
  | some (k, r) => if r.state = .assembling then s.extendRecord k r f last else s.dropStrip
  | none =>
    match s.pse.freeRecord with
    | some k =>
      if f.offset = 0 ∧ 1 ≤ s.stripPagesAvailable then
        s.extendRecord k ⟨source, f.stripId, stampOfFragment f.stamp, f.declared.toNat, [], .assembling, s.ctn.cycle, 0⟩ f last
      else s.dropStrip
    | none => s.dropStrip

/-- Every ASSEMBLING record that meets `p` becomes INCOMPLETE (R159, R161). -/
def State.breakRecords (s : State) (p : StripRecord → Bool) : State :=
  (List.finRange 32).foldl (fun s k =>
    match s.pse.records.get k with
    | some r => if r.state = .assembling ∧ p r then s.settleStripRecord k r .incomplete else s
    | none => s) s

/-- The gap timeout at a local boundary (R159). The lag is read as signed, so that a record whose last fragment cycle lies ahead of the
cycle number does not time out: the model's choice (log entry 110). -/
def State.gapTimeout (s : State) : State :=
  s.breakRecords fun r => (s.pse.gap : Int) ≤ sdiff s.ctn.cycle r.lastCycle

/-- A strip is handed to the console's own reassembly, when a record is free (R150). It takes the lowest-numbered free record (log entry
101), beside a record of the same key too (log entry 102): the model's choices. -/
def State.reassemble (s : State) (h : Fin 16) (x : Strip) : Option State :=
  match s.pse.freeRecord with
  | some k =>
    let s := { s with free := s.free + 1 }
    let s := s.putRecord k ⟨s.ctn.config.address, x.id, x.stamp, x.data.length, x.data, .complete,
      Config.ownRecordCycle s.free, pagesFor x.data.length⟩
    some ((s.endStrip h x .sent).raisePanel .stripArrived)
  | none => none

/-- One descriptor at the instant the node becomes the console: those in the send order or HELD, so neither an OPEN one nor one
that a pending CANCEL has taken out of the order (R150, R152). -/
def State.consoleStrip (s : State) (h : Fin 16) : State :=
  match s.strip h with
  | some x =>
    if x.state = .opened ∨ x.pending = .cancel then s
    else if x.sent = 0 then (s.reassemble h x).getD (s.endStrip h x .lost)
    else s.loseStrip h x
  | none => s

/-- The node becomes the console (R150). -/
def State.becomeConsole (s : State) : State := (List.finRange 16).foldl State.consoleStrip s

/-- A strip in SENDING is lost (R161). -/
def State.loseSending (s : State) (h : Fin 16) : State :=
  match s.strip h with
  | some x => if x.state = .sending then s.loseStrip h x else s
  | none => s

/-- A ring restart acts on the PSE (R161). -/
def State.restartStrips (s : State) : State :=
  let s := (List.finRange 16).foldl State.loseSending s
  (s.breakRecords fun _ => true).onPse fun u => { u with grant := none, computed := none, offer := none }

/-! ## Grants (R155 to R157) -/

/-- The grant that a grant table gives an address. -/
def grantOf (entries : List GrantEntry) (a : Byte) (cycle : Word) : Option Grant :=
  (entries.find? fun g => g.node == a).map fun g => ⟨cycle, g.tile.toNat * 64, g.strip.toNat * 64, false, false⟩

/-- The computation in progress: the entries so far and the bytes left. -/
structure GrantWork where
  entries : List GrantEntry
  left : Nat
  deriving DecidableEq, Repr

/-- The visit of one node in a pass (R156): `tile` says that it is the tile pass. -/
def GrantWork.visit (w : GrantWork) (tile : Bool) (cap : Nat) (node : Byte) (demand : Nat) : GrantWork :=
  let held := w.entries.find? fun g => g.node == node
  let used := (held.map fun g => if tile then g.tile.toNat else g.strip.toNat).getD 0
  let g := min demand (min (cap - used) (w.left / 64))
  let gain : GrantEntry → GrantEntry := fun e =>
    if tile then { e with tile := BitVec.ofNat 16 (e.tile.toNat + g) } else { e with strip := BitVec.ofNat 16 (e.strip.toNat + g) }
  if g = 0 then w
  else if held.isSome then
    ⟨w.entries.map fun e => if e.node == node then gain e else e, w.left - 64 * g⟩
  else if w.entries.length < 16 then ⟨w.entries ++ [gain ⟨node, 0, 0⟩], w.left - 64 * g⟩
  else w

/-- One pass over the plan positions from the rotating start. -/
def GrantWork.pass (w : GrantWork) (tile : Bool) (cap : Nat) (nodes : List (Byte × Nat)) : GrantWork :=
  nodes.foldl (fun w x => w.visit tile cap x.1 x.2) w

/-- The plan in the order a pass visits it. -/
def visitOrder (plan : List Byte) (r : Nat) : List Byte := plan.drop r ++ plan.take r

/-- The budget B (R156). -/
def State.budget (s : State) : Nat :=
  2 * (s.cycleTicks - (2 * s.delay + cfTicks s.ctn.plan.length + Config.asyncTail))

/-- A demand of an address, when its section table entry carries cycle number `k` (R156). -/
def State.demandOf (s : State) (k : Word) (demand : Section → Half) (a : Byte) : Nat :=
  match addressIndex a with
  | some i =>
    match s.cfe.table.get i with
    | some e => if e.cycle = k then (demand e.sec).toNat else 0
    | none => 0
  | none => 0

/-- The grant table computed after the merge of cycle `k` (R156). -/
def State.grantTable (s : State) (k : Word) : GrantTable :=
  let nodes := visitOrder s.ctn.plan s.pse.rotate
  let demands (d : Section → Half) := nodes.map fun a => (a, s.demandOf k d a)
  let w := ((GrantWork.pass ⟨[], s.budget⟩ true s.pse.tileCap (demands Section.tileDemand)).pass false s.pse.stripCap
    (demands Section.alertDemand)).pass false s.pse.stripCap (demands Section.normalDemand)
  ⟨w.entries, s.pse.rotate⟩

/-- The table computed at a boundary is held, none when the ring was open, and r advances (R156, R157). -/
def State.holdTable (s : State) (g : Option GrantTable) : State :=
  s.onPse fun u => { u with
    computed := g
    rotate := if s.ctn.plan.length = 0 then 0 else (u.rotate + 1) % s.ctn.plan.length }

end Sys2Proof.Machine
end

