-- ==== Sys2Proof/Machine/TileWork.lean ====
section
/-! DEFINITION. The tile and event unit's work: the tile queues, repaint masks, panel and console events (chapter 10). -/

namespace Sys2Proof.Machine

/-! ## Repaint masks (R168) -/

/-- The node's own repaint mask takes a value; at the console its own table entry follows it, and REPAINT is raised on a
gained bit. -/
def State.setRepaint (s : State) (mask : Half) : State :=
  let gained := meets mask (~~~s.teu.repaint)
  (s.onTeu fun u => { u with repaint := mask }).when (gained && s.isConsole) fun s => s.raisePanel .repaint

/-- The console's repaint table takes the mask of a new section of another node. -/
def State.takeRepaint (s : State) (a : Byte) (mask : Half) (cycle : Word) : State :=
  match addressIndex a with
  | some i =>
    let old := ((s.teu.repaints.get i).map RepaintEntry.mask).getD 0
    (s.onTeu fun u => { u with repaints := u.repaints.set i (some ⟨mask, cycle⟩) }).when (meets mask (~~~old)) fun s =>
      s.raisePanel .repaint
  | none => s

/-- Repaint masks of addresses that leave the plan are emptied. -/
def TileUnit.keepPlan (u : TileUnit) (plan : List Byte) : TileUnit :=
  { u with repaints := u.repaints.mapIdx fun i r => if plan.contains (indexAddress i) then r else none }

/-! ## The incoming tile queue (R166) -/

/-- Unfetched entries of the incoming queue. -/
def TileUnit.unfetched (u : TileUnit) : Nat := (u.incoming.filter fun e => !e.fetched).length

/-- The place of the UNFETCHED entry of a screen and tile index. -/
def TileUnit.findIncoming (u : TileUnit) (screen : Byte) (index : Half) : Option (Nat × InTile) :=
  match u.incoming.findIdx? fun e => !e.fetched && e.screen == screen && e.index == index with
  | some k => (u.incoming[k]?).map fun e => (k, e)
  | none => none

/-- An arrival that cannot be stored is dropped: its screen's bit is set (R166 step 4). -/
def State.dropTile (s : State) (screen : Byte) : State := s.setRepaint (setBit s.teu.repaint screen.toNat)

/-- A stored arrival that carries REPAINT clears its screen's bit (R166 step 5). -/
def State.clearRepaint (s : State) (screen : Byte) (repaint : Bool) : State :=
  s.when repaint fun s => s.setRepaint (clearBit s.teu.repaint screen.toNat)

/-- A tile is offered to the incoming queue: coalescing, new entry or drop (R166 steps 2 to 5). -/
def State.offerTile (s : State) (x : InTile) : State :=
  match s.teu.findIncoming x.screen x.index with
  | some (k, old) =>
    if pagesFor x.data.length ≤ s.freePages + pagesFor old.data.length then
      (s.onTeu fun u => { u with incoming := u.incoming.set k x }).clearRepaint x.screen x.repaint
    else s.dropTile x.screen
  | none =>
    if s.teu.incoming.length < Config.tileQueueLimit ∧ pagesFor x.data.length ≤ s.freePages then
      let first := s.teu.unfetched == 0
      let s := s.onTeu fun u => { u with incoming := u.incoming ++ [x] }
      (s.when first fun s => s.raisePanel .tileArrived).clearRepaint x.screen x.repaint
    else s.dropTile x.screen

/-- A broadcast frame is discarded (R166 step 1). -/
def repeatedBroadcast (last : Option Half) (seq : Half) (first : Bool) : Bool :=
  match last with
  | none => false
  | some l => if first then seq == l else !newer seq l

/-- A TILE frame delivered to the TEU (R166). -/
def State.takeTile (s : State) (f : Frame) (t : TileBody) : State :=
  let x : InTile := ⟨t.screen, t.index, f.repaint, t.postSeq, t.data, false⟩
  if f.dest = 0xFF then
    if repeatedBroadcast s.teu.lastBroadcast t.broadcastSeq f.first then s
    else (s.onTeu fun u => { u with lastBroadcast := some t.broadcastSeq }).offerTile x
  else s.offerTile x

/-! ## The outgoing tile queue (R163 to R165) -/

/-- The entry is matched by the post in progress (R163). -/
def TileUnit.posted (u : TileUnit) (e : OutTile) : Bool :=
  u.posting.any fun p => p.matched && e.waits && e.hasKey p.dest p.screen p.index

/-- Frames that the entry makes in all: its row, or the row that the break index would give it (R165). -/
def State.tileFrames (s : State) (e : OutTile) : Nat :=
  if e.dest = 0xFF then
    match e.row with
    | some r => if r.two then 2 else 1
    | none => if s.ctn.breakIx = some .intact then 1 else 2
  else 1

/-- The size of a frame of the entry. -/
def OutTile.size (e : OutTile) : Nat := e.data.length + 40

/-- A unicast entry waits for a route (R165). -/
def State.unrouted (s : State) (e : OutTile) : Bool := e.dest != 0xFF && s.routeTo e.dest == .none

/-- The bytes of tile frames not yet started (R165). -/
def State.tileBacklog (s : State) : Nat :=
  (s.teu.out.map fun e => if s.unrouted e then 0 else (s.tileFrames e - e.started) * e.size).sum

/-- The tile demand (R154, R165). -/
def State.tileDemand (s : State) : Half := if s.isConsole then demandUnits s.tileBacklog else 0

/-- The post takes effect at its last data byte (R163, R164). -/
def State.finishPost (s : State) (p : Posting) (data : List Byte) : State :=
  let seq := s.teu.postSeq + 1
  let own := p.dest == s.ctn.config.address
  let s := s.onTeu fun u => { u with
    posting := none, postSeq := seq, lastPost := some ⟨.ok, seq, p.dest, p.screen, p.index⟩ }
  let s := if own then s else s.onTeu fun u =>
    match u.findWaiting p.dest p.screen p.index with
    | some k => { u with out := u.out.modify k fun e => { e with data := data, repaint := p.repaint, seq := seq } }
    | none => { u with out := u.out ++ [⟨p.dest, p.screen, p.index, p.repaint, data, seq, 0, none⟩] }
  if own || p.dest == 0xFF then s.offerTile ⟨p.screen, p.index, p.repaint, seq, data, false⟩ else s

/-- A tile frame of the node's own closes at the transmitter: the entry leaves at its last frame (R165). -/
def State.tileClosed (s : State) (t : TileBody) : State :=
  s.onTeu fun u => { u with out := u.out.filter fun e =>
    !(e.seq == t.postSeq && 0 < e.started && s.tileFrames e ≤ e.started) }

/-- FIRST is no longer to be sent, by an entry whose row is settled either (R171; log entry 50). -/
def TileUnit.dropFirst (u : TileUnit) : TileUnit :=
  { u with firstDue := false, out := u.out.map fun e => { e with row := e.row.map fun r => { r with first := false } } }

/-- The TILE frame of an entry whose row is settled (R165, 12.3). -/
def State.tileFrame (s : State) (e : OutTile) : Frame where
  dest := e.dest
  source := s.ctn.config.address
  length := BitVec.ofNat 16 (e.data.length + 32)
  kind := Kind.tile
  flags := BitVec.ofNat 8 (bitsNat [e.repaint, e.started == 0 && (e.row.map BroadcastRow.first).getD false])
  body := .tile ⟨e.screen, e.index, e.seq, (e.row.map BroadcastRow.seq).getD 0, BitVec.ofNat 16 e.data.length, e.data⟩

/-- The port of an entry's next frame (R165). -/
def State.tilePort (s : State) (e : OutTile) : FibrePort :=
  if e.dest = 0xFF then (if e.started = 0 then .a else .b)
  else if s.routeTo e.dest = .b then .b else .a

/-! ## Panel events (R169, R170) -/

/-- The events that a section of cycle `k` carries (R169): until the first made write of the cycle the oldest two, at each header
(log entry 80). -/
def TileUnit.eventsFor (u : TileUnit) (k : Word) : List EventSlot :=
  match u.carried with
  | some (c, es) => if c = k then es else u.events.take 2
  | none => u.events.take 2

/-- An event joins the console event queue, or is discarded with EVENTS_LOST (R170). -/
def TileUnit.addConsole (u : TileUnit) (e : ConsoleEvent) : TileUnit :=
  if u.console.length < Config.consoleEventLimit then { u with console := u.console ++ [e] } else { u with lost := true }

/-- The console takes events of one source and one cycle; a slot whose kind is no event's is passed over (R170, R185). -/
def State.takeEvents (s : State) (source : Byte) (cycle : Word) (es : List EventSlot) : State :=
  s.onTeu fun u => (es.filter fun e => inRange 1 3 e.kind.toNat).foldl (fun u e => u.addConsole ⟨source, e, cycle⟩) u

/-- The cycle numbers run anew: no cycle that follows is the one whose first made write the carried events belong to (R169; log entry
86). -/
def State.forgetCarried (s : State) : State := s.onTeu fun u => { u with carried := none }

/-- A cycle jump gives the cycle the number `k`: carried events of another number belong to no cycle that follows (R169, R40; log entry
86). -/
def State.keepCarried (s : State) (k : Word) : State :=
  s.onTeu fun u => { u with carried := u.carried.filter fun x => x.1 == k }

/-- The made write of cycle `k` carried the events `es` (R169, R53, R48): at the first made write of the cycle they leave the
queue and become the cycle's carried events. The carried events of one cycle are kept: where the write of a copy is made after the first
made write of another cycle, it counts as the first of its own, and takes as many events as it carried from the front of the queue, the
model's choice (log entry 119). -/
def State.commitEvents (s : State) (k : Word) (es : List EventSlot) : State :=
  if s.teu.carried.any fun c => c.1 == k then s
  else
    let room := Config.panelEventLimit ≤ s.teu.events.length && !es.isEmpty
    let s := s.onTeu fun u => { u with events := u.events.drop es.length, carried := some (k, es) }
    let s := s.when s.isConsole fun s => s.takeEvents s.ctn.config.address k es
    s.when room fun s => s.raisePanel .eventRoom

end Sys2Proof.Machine
end

