-- ==== Sys2Proof/Machine/Offers.lean ====
section
/-! DEFINITION. The node's own FRAGMENT and TILE frames: which is offered, and when it starts (R14, R153, R155, R165). -/

namespace Sys2Proof.Machine

/-- The grant in hand of the current cycle, in ALIGNED or RUN (R153, R155, R165). -/
def State.grantNow (s : State) : Option Grant :=
  if s.cycling then s.pse.grant.filter fun g => g.cycle == s.ctn.cycle else none

/-- A transmission that `p` says is one of interest. -/
def State.sending (s : State) (p : Origin → Bool) : Bool :=
  s.fpf.a.tx.any (fun x => p x.out.origin) || s.fpf.b.tx.any fun x => p x.out.origin

/-- The origin is an own fragment. -/
def Origin.isFragment : Origin → Bool
  | .ownFragment _ _ _ _ => true
  | .transit | .ownTrip | .ownCycle _ | .ownProbe | .ownTile => false

/-- The place of the entry whose frame is offered next: a broadcast entry whose second frame is due, else the first WAITING
entry not passed over (R165). -/
def State.nextTile (s : State) : Option Nat :=
  match s.teu.out.findIdx? fun e => 0 < e.started && e.started < s.tileFrames e with
  | some k => some k
  | none => s.teu.out.findIdx? fun e => e.waits && !s.teu.posted e && !s.unrouted e

/-- The entry's row and broadcast sequence are settled when its first frame is offered (R165). -/
def State.settleRow (s : State) (k : Nat) (e : OutTile) : State × OutTile :=
  if e.dest = 0xFF ∧ e.row.isNone then
    let seq := s.teu.broadcast + 1
    let e := { e with row := some ⟨seq, s.tileFrames e == 2, s.teu.firstDue⟩ }
    (s.onTeu fun u => { u with out := u.out.set k e, broadcast := seq, firstDue := false }, e)
  else (s, e)

/-- What is to be offered now, with the state as settling it leaves it: the origin, the frame and the port of its builder. -/
structure Candidate where
  state : State
  offered : Option (Origin × Frame × FibrePort)
  deriving DecidableEq, Repr

/-- The tile frame to be offered (R165, R155). -/
def State.tileCandidate (s : State) (g : Grant) : Candidate :=
  if !s.isConsole || g.tileBlocked || s.sending (· == .ownTile) then ⟨s, none⟩
  else
    match s.nextTile with
    | some k =>
      match s.teu.out[k]? with
      | some e =>
        if e.size ≤ g.tile then
          let r := s.settleRow k e
          ⟨r.1, some (.ownTile, r.1.tileFrame r.2, r.1.tilePort r.2)⟩
        else ⟨s.onPse fun u => { u with grant := some { g with tileBlocked := true } }, none⟩
      | none => ⟨s, none⟩
    | none => ⟨s, none⟩

/-- The fragment to be offered (R153, R155). -/
def State.fragmentCandidate (s : State) (g : Grant) : Candidate :=
  if g.stripBlocked || !s.consoleReached || s.sending Origin.isFragment then ⟨s, none⟩
  else
    match s.pse.order.head? with
    | some h =>
      match s.strip h with
      | some x =>
        let f := s.fragmentFrame h x
        if f.size ≤ g.strip then
          ⟨s, some (.ownFragment h x.id x.nextIsLast (x.state == .queued), f, if s.routeTo s.console = .b then .b else .a)⟩
        else ⟨s.onPse fun u => { u with grant := u.grant.map fun g => { g with stripBlocked := true } }, none⟩
      | none => ⟨s, none⟩
    | none => ⟨s, none⟩

/-- The TEU holds a tile frame that fits the tile part left (R155), be it one that another tile frame in transmission keeps from
being offered. -/
def State.holdsTile (s : State) (g : Grant) : Bool :=
  s.isConsole && !g.tileBlocked && match s.nextTile with
    | some k => (s.teu.out[k]?).any fun e => e.size ≤ g.tile
    | none => false

/-- The fragment to be offered, none while the TEU holds a tile frame that fits (R155). -/
def State.fragmentTurn (s : State) (g : Grant) : Candidate := if s.holdsTile g then ⟨s, none⟩ else s.fragmentCandidate g

/-- What is to be offered: a tile frame that fits goes before any fragment (R155). -/
def State.candidate (s : State) : Candidate :=
  match s.grantNow with
  | some g =>
    match s.tileCandidate g with
    | ⟨s, some o⟩ => ⟨s, some o⟩
    | ⟨s, none⟩ => s.fragmentTurn g
  | none => ⟨s, none⟩

/-- The frame is presented as any own frame is (R10): at its port, or wrapped to the other when that port is down. -/
def State.presentOffer (s : State) (origin : Origin) (f : Frame) (port : FibrePort) : Offer :=
  if (s.fibre port).link == .locked then ⟨origin, f, port, f⟩ else ⟨origin, f, port.other, f.turned.getD f⟩

/-- The offer is renewed: a frame already offered stays where it was presented unless that port is down (R10, R11). -/
def State.renewOffer (s : State) : State :=
  let c := s.candidate
  match c.offered with
  | some (origin, f, port) =>
    let fresh := c.state.presentOffer origin f port
    let o := match s.pse.offer with
      | some o => if o.origin == origin && o.built == f && (s.fibre o.port).link == .locked then o else fresh
      | none => fresh
    c.state.onPse fun u => { u with offer := some o }
  | none => c.state.onPse fun u => { u with offer := none }

/-- The frame may start (R14): the transmitter is free with nothing waiting, the time is inside the window, and the frame ends
before the window closes. -/
def State.mayStart (s : State) (o : Offer) : Bool :=
  (s.fibre o.port).free && s.ctn.window == .inside
    && 0 ≤ sdiff s.ctn.windowClose (later s.tick (frameTicks o.frame.size))

/-- A tile frame of the entry with this post sequence starts (R165, R155). -/
def State.tileStarted (s : State) (t : TileBody) (size : Nat) : State :=
  (s.onPse fun u => { u with grant := u.grant.map fun g => { g with tile := g.tile - size } }).onTeu fun u =>
    { u with out := match s.nextTile with
      | some k => u.out.modify k fun e => if e.seq = t.postSeq then { e with started := e.started + 1 } else e
      | none => u.out }

/-- The offered frame starts. -/
def State.startOffer (s : State) (o : Offer) : State :=
  let s := s.onPse fun u => { u with offer := none }
  let s := match o.origin with
    | .ownFragment h _ _ _ => s.fragmentStarted h o.frame.size
    | .ownTile => (match o.frame.body with
      | .tile t => s.tileStarted t o.frame.size
      | .cycle _ | .probe _ | .trip _ | .fragment _ | .other _ => s)
    | .transit | .ownTrip | .ownCycle _ | .ownProbe => s
  s.transmit o.port ⟨o.frame, o.origin, o.port, none, false, false, none, o.frame.size, s.tick⟩ s.tick 0 (some s.tick)

/-- The offer is renewed, and started when it may. -/
def State.offerOnce (s : State) : State :=
  let s := s.renewOffer
  match s.pse.offer with
  | some o => if s.mayStart o then s.startOffer o else s
  | none => s

/-- The builders' offers after an event: at most one frame starts at each port, and the next is offered. -/
def State.refreshOffers (s : State) : State := s.offerOnce.offerOnce.offerOnce

end Sys2Proof.Machine
end

