-- ==== Sys2Proof/Machine/Sections.lean ====
section
/-! DEFINITION. The cycle frame engine: the node's own section, the cycle frame as the line node builds it, and the section table
(chapter 3). -/

namespace Sys2Proof.Machine

/-! ## The own section (R49 to R51) -/

/-- A Publish Words transaction is in progress (R50). -/
def State.publishing (s : State) : Bool :=
  s.drive.tr.state == .parameters && s.drive.tr.command == some 0x2E && !s.drive.tr.denied

/-- An unused event slot (R49). -/
def EventSlot.unused : EventSlot := ⟨0, 0, 0, 0⟩

/-- The link offset that the section carries (R49, R42). -/
def State.linkOffset (s : State) : Half :=
  if s.isLine then 0 else BitVec.ofNat 16 (min 65535 (s.ctn.fol.offset.getD 65535))

/-- The axes whose published records carry VALID (R49). -/
def State.axisRun (s : State) : Byte := BitVec.ofNat 8 (bitsNat (s.axe.published.list.map SetpointRecord.valid))

/-- The node's section at this snapshot instant, carrying the panel events `es` (R49). -/
def State.ownSection (s : State) (es : List EventSlot) : Section where
  address := s.ctn.config.address
  flags := sectionFlags true s.publishing s.cycling (s.ctn.state == .run) (s.isFollower && 0 < s.ctn.fol.holdover)
    (s.isFollower && s.ctn.fol.unaligned)
  tripClass := byteOf s.tru.summaryClass 0
  tripCause := s.tru.summaryCause
  tripZones := s.tru.summaryZones
  tripSeq := s.tru.seq
  errA := byteOf s.fpf.a.published 0
  errB := byteOf s.fpf.b.published 0
  tileDemand := s.tileDemand
  alertDemand := s.stripDemand .alert
  normalDemand := s.stripDemand .normal
  repaint := s.teu.repaint
  eventCount := byteOf es.length 0
  axisRun := s.axisRun
  event1 := es.getD 0 EventSlot.unused
  event2 := es.getD 1 EventSlot.unused
  words := s.cfe.words
  linkOffset := s.linkOffset

/-- The own section image and table entry take a written section of cycle `k` (R53, R48, R63). -/
def State.takeOwnSection (s : State) (x : Section) (k : Word) : State :=
  s.onCfe fun c => { c with
    own := some (x, k)
    table := match addressIndex s.ctn.config.address with
      | some i => c.table.set i (some ⟨x, k, false⟩)
      | none => c.table }

/-- A made write of cycle `k` (R53, R48). -/
def State.madeWrite (s : State) (w : SectionWrite) : State := (s.takeOwnSection w.sec w.cycle).commitEvents w.cycle w.carried

/-! ## Sections taken (R56, R59) -/

/-- The offered section replaces the entry (R56). -/
def replaces (e : Option TableEntry) (cycle : Word) : Bool :=
  match e with
  | none => true
  | some x => x.carried || 0 ≤ sdiff cycle x.cycle

/-- The replacement is a new section, not a repeat (R56). -/
def replacesAsNew (e : Option TableEntry) (cycle : Word) : Bool :=
  match e with
  | none => true
  | some x => x.carried || 0 < sdiff cycle x.cycle

/-- A replacement of the entry at position `i`: the table, the remote trip record and, for a new section at the console, the
events and the repaint mask. The classes are recomputed by the caller (log entry 28). -/
def State.replaceSection (s : State) (i : Fin 48) (x : Section) (k : Word) (isNew : Bool) : State :=
  let s := s.onCfe fun c => { c with table := c.table.set i (some ⟨x.taken, k, false⟩) }
  let s := s.onTru fun u => { u with remote := u.remote.set i (takeTripSection (u.remote.get i) x k) }
  if isNew && s.isConsole then
    (s.takeEvents (indexAddress i) k x.events).takeRepaint (indexAddress i) x.repaint k
  else s

/-- A section of a data copy of cycle `k` is offered to the table (R56). -/
def State.offerSection (s : State) (k : Word) (x : Section) : State :=
  match addressIndex x.address with
  | some i =>
    if x.written && x.address != s.ctn.config.address && replaces (s.cfe.table.get i) k then
      s.replaceSection i x k (replacesAsNew (s.cfe.table.get i) k)
    else s
  | none => s

/-- Entries of addresses not in a plan are emptied (R57, R61). -/
def Cfe.keepPlan (c : Cfe) (plan : List Byte) : Cfe :=
  { c with table := c.table.mapIdx fun i e => if plan.contains (indexAddress i) then e else none }

/-- Non-empty entries are marked CARRIED (R57). -/
def Cfe.markCarried (c : Cfe) : Cfe :=
  { c with table := c.table.map fun e => e.map fun x => { x with carried := true } }

/-- The section table, the remote records and the repaint table follow a changed plan (R57, R61, R118, R168). -/
def State.keepPlan (s : State) (plan : List Byte) : State :=
  ((s.onCfe fun c => c.keepPlan plan).onTru fun u => u.keepPlan plan).onTeu fun u => u.keepPlan plan

/-! ## The merge (R59, R60) -/

/-- The section at plan position `j` of a kept copy, when WRITTEN there. -/
def KeptCopy.section (c : KeptCopy) (j : Nat) : Option Section := (c.body.sections[j]?).filter Section.written

/-- The kept copy's fields lie inside their coding (R185). -/
def KeptCopy.coded (c : KeptCopy) : Bool := c.body.coded (164 + 40 * c.body.sections.length)

/-- The section that a kept copy supplies for plan position `j`; one with a field outside its coding supplies none (R185; log entry 47). -/
def KeptCopy.supplies (c : KeptCopy) (j : Nat) : Option Section := if c.coded then c.section j else none

/-- The merge takes the section of plan position `j` from the A copy, failing that from the B copy (R59). -/
def State.mergeSection (s : State) (k : Word) (j : Nat) (a : Byte) : State :=
  let l := s.ctn.line
  let x := match l.keptA.bind fun c => c.supplies j with
    | some x => some x
    | none => l.keptB.bind fun c => c.supplies j
  match x, addressIndex a with
  | some x, some i => if a = s.ctn.config.address then s else s.replaceSection i x k true
  | _, _ => s

/-- The merge of cycle `k` (R59). The sections are taken in plan order, and so are their events and repaint masks handed to the TEU: the
model's choice (log entry 116). -/
def State.merge (s : State) (k : Word) : State :=
  ((s.ctn.plan.zipIdx.foldl fun s x => s.mergeSection k x.2 x.1) s).settleClass

/-- The plan indices whose sections are WRITTEN in a copy. -/
def KeptCopy.writtenIn (c : KeptCopy) (m : Nat) : List Nat := (List.range m).filter fun j => (c.section j).isSome

/-- The break index that the merge finds (R60), `m` being the plan count. -/
def mergedBreak (keptA keptB : Option KeptCopy) (m : Nat) : BreakIndex :=
  match keptA, keptB with
  | some a, _ => if a.wraps = 0 then .intact else .after ((a.writtenIn m).foldl max 0)
  | none, some b =>
    if b.wraps = 0 then .intact
    else .after ((((b.writtenIn m).filter fun j => 0 < j).foldl min m) - 1)
  | none, none => .opened

/-- The break index is set; a change recomputes the routes and raises RING_CHANGE (R60). -/
def State.setBreak (s : State) (b : BreakIndex) : State :=
  if s.ctn.breakIx = some b then s
  else ((s.onCtn fun c => { c with breakIx := some b }).recomputeRoutes).raiseDrive .ringChange

/-! ## The frame as the line node sends it (R47, R48) -/

/-- A blank section (R48). -/
def blankSection (a : Byte) : Section :=
  ⟨a, 0, 0, 0, 0, 0, 0, 0, 0, 0, 0, 0, 0, 0, EventSlot.unused, EventSlot.unused, Tab.const 6 0, 0⟩

/-- `xs` filled up to `n` entries. -/
def padded {α : Type} (n : Nat) (x : α) (xs : List α) : List α := xs ++ List.replicate (n - xs.length) x

/-- The entries of the grant table that the frame carries (R47, R157). -/
def State.carriedGrants (s : State) : List GrantEntry := (s.pse.computed.map GrantTable.entries).getD []

/-- The body of the cycle frame, with the line node's own section `own` (R47). Without a carried table the rotating start is any plan
position (12.2; log entry 13). -/
def State.cycleBody (s : State) (own : Section) : CycleBody where
  cycle := s.ctn.cycle
  superLen := byteOf s.ctn.config.superLen 0
  code := byteOf s.ctn.config.code 0
  planCount := byteOf s.ctn.plan.length 0
  console := s.ctn.config.console
  breakIx := (s.ctn.breakIx.getD .opened).code
  delay := BitVec.ofNat 32 s.delay
  sampleBoundary := s.ctn.cycle + 2
  sampleP := ((s.lu.sample (s.ctn.cycle + 2)).map Sample.p).getD 0
  sampleV := ((s.lu.sample (s.ctn.cycle + 2)).map Sample.v).getD 0
  lineZones := s.ctn.config.lineZones
  lineState := ((s.lu.sample (s.ctn.cycle + 2)).map fun x => x.state.code).getD 0
  grantCount := byteOf s.carriedGrants.length 0
  grants := padded 16 ⟨0, 0, 0⟩ s.carriedGrants
  plan := padded 48 0 s.ctn.plan
  rotating := match s.pse.computed with
    | some t => byteOf t.start 0
    | none => byteOf ((Config.rotatingWithoutTable s.free).toNat % s.ctn.plan.length) 0
  sections := own :: (s.ctn.plan.drop 1).map blankSection

/-- The cycle frame (R47). -/
def State.cycleFrame (s : State) (restart : Bool) (own : Section) : Frame where
  dest := 0xFF
  source := s.ctn.config.address
  length := BitVec.ofNat 16 (164 + 40 * s.ctn.plan.length)
  kind := Kind.cycle
  flags := BitVec.ofNat 8 (bitsNat [restart, false, s.ctn.line.held])
  body := .cycle (s.cycleBody own)

/-- The line node builds the cycle frame of its current cycle number and presents its two copies (R37, R47, R48): its own write
is made, and its grant entry in the carried table is the grant in hand. -/
def State.sendCycle (s : State) (restart : Bool) : State :=
  let k := s.ctn.cycle
  let es := s.teu.eventsFor k
  let own := s.ownSection es
  let f := s.cycleFrame restart own
  let g := grantOf s.carriedGrants s.ctn.config.address k
  let s := { s with free := s.free + 1 }
  let s := s.madeWrite ⟨own, k, es⟩
  let s := s.onPse fun u => { u with grant := g, computed := none }
  (s.sendOut (ownFrame f (.ownCycle .a) .a) s.tick).sendOut (ownFrame f (.ownCycle .b) .b) s.tick

end Sys2Proof.Machine
end

