-- ==== Sys2Proof/Machine/Timing.lean ====
section
/-! DEFINITION. The cycle timer and node state: state changes, the boundary work, probes and plans, the line node's boundary, and
the follower's alignment (chapter 2; file 95 for the order inside a boundary, log entry 11). -/

namespace Sys2Proof.Machine

/-! ## Node state (R23, R28) -/

/-- The node leaves ALIGNED or RUN for JOINING, PROBING or PASSIVE: its own frames offered are withdrawn, and it holds no grant
(R23, R100, R135). -/
def State.leaveCycling (s : State) : State :=
  ((((s.onAxe fun x => x.invalidate.discard).beginDue).onTgu TriggerUnit.leaveCycling).onCtn fun c =>
    { c with window := .before }).onPse fun u => { u with offer := none, grant := none }

/-- The node state changes: STATE_CHANGE, and what follows from leaving RUN or cycling (R23, R100). -/
def State.setNodeState (s : State) (st : NodeState) : State :=
  if s.ctn.state = st then s
  else
    let was := s.cycling
    let s := (s.onCtn fun c => { c with state := st }).raiseDrive .stateChange
    if was && !s.cycling then s.leaveCycling
    else s.when (st == .aligned) fun s => s.onAxe AxisEngine.invalidate

/-- The boundary stops; R1 counts from this instant. -/
def Ctn.stopBoundary (c : Ctn) (now : Word) : Ctn :=
  { c with boundary := none, idleSince := if c.boundary.isSome then now else c.idleSince }

/-- The alignment record without boundary, alignment, arrivals and waits (R28, R36). -/
def Follower.unaligning (f : Follower) : Follower :=
  { f with lineAddress := none, align := 0, step := 0, holdover := 0, unaligned := false, closed := none
           closedBefore := none, waited := none, thisA := none, thisB := none, nextA := none, nextB := none, seen := [], acquisition := none }

/-- What a frame in reception has staged is not taken at its close. -/
def State.unstage (s : State) : State :=
  s.onFpf fun x => { x with a := { x.a with rx := x.a.rx.map fun r => { r with write := none, conflict := false } }
                            b := { x.b with rx := x.b.rx.map fun r => { r with write := none, conflict := false } } }

/-- The CTN's part of an entry into PASSIVE (R28). -/
def Ctn.passive (c : Ctn) (now : Word) : Ctn :=
  { c.stopBoundary now with
    cycle := 0, plan := [], breakIx := none, window := .before
    fol := { c.fol.unaligning with offset := none, delay := 0, restart := none }
    line := { LineTiming.reset with probeNumber := c.line.probeNumber } }

/-- The node enters PASSIVE (R28). -/
def State.enterPassive (s : State) : State :=
  (((s.setNodeState .passive).onCtn fun c => c.passive s.tick).discardOwn.unstage.recomputeRoutes.forgetCarried).settleTrips

/-- An address conflict (R18, R54, R65). -/
def State.conflict (s : State) : State := (s.raiseDrive .addressConflict).emptyWindow.enterPassive

/-- The node came to be the console, or ceased to be it, since `before` (R150, R168, R170; log entry 36). -/
def State.noteConsole (before s : State) : State :=
  if !before.isConsole && s.isConsole then s.becomeConsole
  else if before.isConsole && !s.isConsole then s.onTeu fun u =>
    { u with repaints := Tab.const 48 none, console := [], lost := false }
  else s

/-! ## Boundary work (chapters 1, 4 to 10) -/

/-- A fibre port at a supercycle start (R20). -/
def Fibre.superStart (f : Fibre) : Fibre :=
  { f with published := f.errors, errors := if f.link = .locked then 0 else 255 }

/-- A boundary returns the lock error counts to 0 (R1), and at supercycle position 0 publishes the error counts (R20). -/
def State.portsAtBoundary (s : State) : State :=
  let s := s.onFpf fun x => { x with a := { x.a with lockErrors := 0 }, b := { x.b with lockErrors := 0 } }
  if s.ctn.cycle.toNat % s.superLen = 0 then
    (s.onFpf fun x => { x with a := x.a.superStart, b := x.b.superStart }).settleTrips
  else s

/-- The work of a boundary in ALIGNED or RUN (R23, R98, R89, R103, R126, R133, R159). The TRU takes the TRIM_LIMIT source once the compute
event is over: the model's choice (R140; log entry 109). -/
def State.boundaryWork (s : State) : State :=
  let k := s.ctn.cycle
  let s := s.raiseDrive .cycle
  let s := (s.publication k).computeEvent (k + 1)
  let s := ({ s with reads := min 255 (s.reads + 1) }).settleTrips
  let s := s.intervalEvent k (s.ctn.boundary.getD s.tick)
  (s.onTgu TriggerUnit.ageStamps).gapTimeout

/-! ## Probes (R29 to R33) -/

/-- The PROBE frame of a probe number (R29). -/
def State.probeFrame (s : State) (n : Byte) : Frame :=
  ⟨0xFF, s.ctn.config.address, 51, Kind.probe, 0, .probe ⟨n, 0, List.replicate 47 0⟩⟩

/-- A probe is sent to port `leg` (R29). -/
def State.sendProbe (s : State) (leg : FibrePort) : State :=
  let n := s.ctn.line.probeNumber
  let s := s.onLine fun l => { l with flight := some ⟨n, leg, none⟩, probeNumber := n + 1, repeatAt := none }
  s.sendOut (ownFrame (s.probeFrame n) .ownProbe leg) s.tick

/-- Addresses join a plan: those in it already are left out, and those beyond 48 (R31). -/
def extendPlan (plan more : List Byte) : List Byte :=
  more.foldl (fun p a => if p.contains a || 48 ≤ p.length then p else p ++ [a]) plan

/-- What a completed probe work gives: plan, break index, D, whether D is a measured one, whether D_HELD is set by it. -/
structure PlanResult where
  plan : List Byte
  brk : BreakIndex
  delay : Nat
  measured : Bool
  setsHeld : Bool
  deriving DecidableEq, Repr

/-- The D of a broken plan (R32): the measured D held, or the sum of the estimates of the probes that returned. -/
def LineTiming.brokenDelay (l : LineTiming) (sum : Int) : Nat × Bool :=
  match l.delay, l.measured with
  | some d, true => (d, true)
  | _, _ => (sum.toNat, false)

/-- The plan that the B probe completes (R31, R32): `a` is what was kept of the A probe, `b` the B probe's result, none when it
was lost. The D that an open plan keeps may be a probe estimate (log entry 89). -/
def planOf (own : Byte) (l : LineTiming) (a : ProbeResult) (b : Option ProbeResult) : PlanResult :=
  let broken (plan : List Byte) (k : Nat) (sum : Int) : PlanResult :=
    ⟨plan, .after k, (l.brokenDelay sum).1, (l.brokenDelay sum).2, (l.brokenDelay sum).2⟩
  match b with
  | some b =>
    if !b.wrapped then ⟨extendPlan [own] b.list.reverse, .intact, b.estimate.toNat, false, false⟩
    else if a.wrapped then
      broken (extendPlan (extendPlan [own] a.list) b.list.reverse) a.list.length (a.estimate + b.estimate)
    else broken (extendPlan [own] b.list.reverse) 0 b.estimate
  | none =>
    if a.wrapped then broken (extendPlan [own] a.list) a.list.length a.estimate
    else ⟨[own], .opened, l.delay.getD 0, l.measured, false⟩

/-- The cycle time check (R33). -/
def passesCheck (delay planCount ticks : Nat) : Bool := 2 * delay + cfTicks planCount + Config.asyncTail < ticks

/-- The line node begins cycling: the instant is boundary 0, whose cycle frame is sent at it (R33, R37, R72). A plan that passes the
check ends a pending Ring Restart (R67; log entry 82). -/
def State.beginCycling (s : State) : State :=
  let s := s.onCtn fun c => { c with
    boundary := some s.tick, next := later s.tick s.cycleTicks, cycle := 0, window := .before }
  let s := s.onPse fun u => { u with rotate := 0, computed := none, grant := none }
  let s := (s.onLu fun l => { l with restartPending := false }).forgetCarried
  let s := (s.portsAtBoundary.seedWindow.generate).boundaryWork
  s.sendCycle false

/-- A plan is complete: D is set and the cycle time checked (R32, R33). The rotating start returns to 0 only when the check passes: the
model's choice (R157; log entry 118). -/
def State.completePlan (s : State) (r : PlanResult) : State :=
  let s := s.onLine fun l => { l with
    delay := some r.delay, measured := r.measured, held := l.held || r.setsHeld, aResult := none, flight := none }
  if passesCheck r.delay r.plan.length s.cycleTicks then
    let s := (s.onCtn fun c => { c with plan := r.plan, breakIx := some r.brk }).recomputeRoutes
    let s := (s.keepPlan r.plan).settleClass
    let s := s.onLine fun l => { l with
      openA := false, openB := false, joinPending := false, tooSlow := false, repeatAt := none }
    ((s.setNodeState .aligned).raiseDrive .ringChange).beginCycling
  else
    (s.onLine fun l => { l with tooSlow := true, repeatAt := some (later s.tick Config.probeRepeat) }).raiseDrive .ringChange

/-- The A probe was wrapped or lost: the B probe is sent (R30). -/
def State.probeB (s : State) (a : ProbeResult) : State :=
  (s.onLine fun l => { l with aResult := some a }).sendProbe .b

/-- The probe estimate (R32). -/
def probeEstimate (departure arrival : Word) (count : Nat) : Int :=
  ((arrival - departure).toNat : Int) - Config.probeTicks * count

/-- The probe in flight, which left at `departure`, has returned on port `p` (R29 to R31). -/
def State.probeReturned (s : State) (leg p : FibrePort) (departure arrival : Word) (wrapped : Bool) (b : ProbeBody) : State :=
  let list := b.slots.take b.count.toNat
  let r : ProbeResult := ⟨wrapped, list, probeEstimate departure arrival b.count.toNat⟩
  let s := s.onLine fun l => { l with flight := none, returned := some ⟨arrival, p, wrapped, list⟩ }
  match leg with
  | .a =>
    if wrapped then s.probeB r
    else s.completePlan ⟨extendPlan [s.ctn.config.address] list, .intact, r.estimate.toNat, false, false⟩
  | .b => s.completePlan (planOf s.ctn.config.address s.ctn.line (s.ctn.line.aResult.getD ⟨false, [], 0⟩) (some r))

/-- The probe in flight is lost (R30, R31). -/
def State.probeLost (s : State) (leg : FibrePort) : State :=
  let s := s.onLine fun l => { l with flight := none }
  match leg with
  | .a => s.probeB ⟨false, [], 0⟩
  | .b => s.completePlan (planOf s.ctn.config.address s.ctn.line (s.ctn.line.aResult.getD ⟨false, [], 0⟩) none)

/-! ## Ring restart -/

/-- The blocks' part of a ring restart, at the line node when it takes Ring Restart and at a follower at the good close of the
RESTART copy (R118, R161, R171; log entry 50). -/
def State.ringRestart (s : State) : State :=
  ((s.onTru TripUnit.markCarried).restartStrips).forgetCarried.onTeu TileUnit.dropFirst

/-! ## The line node's boundary (R37 to R39, R59, R60, R156, R69, R47, R35) -/

/-- RING_OPEN_A or RING_OPEN_B takes a value; a change raises RING_CHANGE (R39). -/
def State.setOpen (s : State) (copy : FibrePort) (v : Bool) : State :=
  match copy with
  | .a => if s.ctn.line.openA = v then s else (s.onLine fun l => { l with openA := v }).raiseDrive .ringChange
  | .b => if s.ctn.line.openB = v then s else (s.onLine fun l => { l with openB := v }).raiseDrive .ringChange

/-- A copy's return timer. -/
def LineTiming.timer (l : LineTiming) : FibrePort → Option ReturnTimer
  | .a => l.returnA
  | .b => l.returnB

/-- A copy's return timer stops running. -/
def LineTiming.stopTimer (l : LineTiming) : FibrePort → LineTiming
  | .a => { l with returnA := l.returnA.map fun t => { t with running := false } }
  | .b => { l with returnB := l.returnB.map fun t => { t with running := false } }

/-- A return timeout expires (R39); for the A copy D is then held (R38). -/
def State.returnExpires (s : State) (copy : FibrePort) : State :=
  (s.onLine fun l => { l.stopTimer copy with held := l.held || copy == .a }).setOpen copy true

/-- A timer still running at the next boundary expires there (R39). -/
def State.expireAtBoundary (s : State) (copy : FibrePort) : State :=
  if (s.ctn.line.timer copy).any ReturnTimer.running then s.returnExpires copy else s

/-- An unwrapped A copy of the cycle was kept that could measure D (R38, R185). -/
def LineTiming.measuredNow (l : LineTiming) : Bool := l.keptA.any fun c => c.wraps == 0 && c.coded

/-- The merge, the break index and the join-pending indication of cycle `k`, at boundary k + 1 (R34, R38, R59, R60). -/
def State.mergeBoundary (s : State) (k : Word) : State :=
  let l := s.ctn.line
  let s := (s.merge k).setBreak (mergedBreak l.keptA l.keptB s.ctn.plan.length)
  s.onLine fun x => { x with
    joinPending := l.keptA.any KeptCopy.joinPending || l.keptB.any KeptCopy.joinPending
    held := x.held || !l.measuredNow, keptA := none, keptB := none, returnA := none, returnB := none }

/-- The RESTART frame has been sent: the window is emptied, the boundaries stop, and an A probe follows (R35, R65, R157). -/
def State.restartProbing (s : State) : State :=
  let s := s.emptyWindow.setNodeState .probing
  let s := s.onCtn fun c => c.stopBoundary s.tick
  let s := s.onLine fun l => { l with restartAsked := false, returnA := none, returnB := none }
  let s := (s.onPse fun u => { u with computed := none, grant := none }).forgetCarried
  (s.sendProbe .a).settleTrips

/-- The state at the line node's boundary once the merge of the cycle that ends is made: the return timers still running have expired,
the next cycle has begun, and the ports' counts are taken (R37, R39, R59, R20). -/
def State.mergedAtBoundary (s : State) : State :=
  let s := (s.expireAtBoundary .a).expireAtBoundary .b
  let s' := s.onCtn fun c => { c with
    boundary := some c.next, next := later c.next s.cycleTicks, cycle := c.cycle + 1, window := .before }
  s'.portsAtBoundary.mergeBoundary s.ctn.cycle

/-- The line node's boundary at its instant: the grant table is computed from the merged table, none when no copy came back (R156). -/
def State.lineBoundary (s : State) : State :=
  let ringOpen := s.ctn.line.keptA.isNone && s.ctn.line.keptB.isNone
  let m := s.mergedAtBoundary
  let t := (m.generate.boundaryWork).sendCycle m.ctn.line.restartAsked
  let t := t.holdTable (if ringOpen then none else some (m.grantTable s.ctn.cycle))
  (t.when t.ctn.line.restartAsked State.restartProbing).refreshOffers

/-! ## The follower (R40 to R46) -/

/-- CYCLE_JUMP, CYCLE_JITTER and STEP are raised in the flags of both ports (R177). -/
def State.raiseJump (s : State) : State :=
  { s with drive := { s.drive with cycleJump := true }, panel := { s.panel with cycleJump := true } }
def State.raiseJitter (s : State) : State :=
  { s with drive := { s.drive with cycleJitter := true }, panel := { s.panel with cycleJitter := true } }
def State.raiseStep (s : State) : State :=
  { s with drive := { s.drive with step := true }, panel := { s.panel with step := true } }

/-- The estimate of boundary `l` as the error e = s − l, and the link offset that it sets (R42). -/
def Follower.estimate (f : Follower) (l : Word) : Option (Int × Option Nat) :=
  match f.thisA, f.thisB, f.offset with
  | some tA, some tB, _ =>
    let e := (sdiff tA l + sdiff tB l - f.delay) / 2
    some (e, some (clamp 0 f.delay (sdiff tA l - e)).toNat)
  | some tA, none, some a => some (sdiff tA l - a, some a)
  | none, some tB, some a => some (sdiff tB l - ((f.delay : Int) - a), some a)
  | _, _, _ => none

/-- The alignment count after a timing close (R44). -/
def alignAfter (align : Nat) (e : Option Int) : Nat :=
  match e with
  | some e => if e.natAbs ≤ 32 then min 8 (align + 1) else 0
  | none => 0

/-- The next boundary, the step count and whether STEP is raised (R43). -/
def nextBoundary (l : Word) (ticks step : Nat) (e : Option Int) : Word × Nat × Bool :=
  match e with
  | some e =>
    if e.natAbs ≤ 256 then (shifted l (ticks + clamp (-8) 8 e), 0, false)
    else if step < 2 then (later l ticks, step + 1, false)
    else (shifted l (e + ticks), 0, true)
  | none => (later l ticks, step, false)

/-- CF_MISSED (R45). A follower whose h is above H_max already when it comes to ALIGNED, by a Stop in RUN, enters JOINING at its next
CF_MISSED (log entry 87). -/
def State.missed (s : State) : State :=
  let s := s.raiseDrive .cfMissed
  let s := (s.onFol fun f => { f with holdover := min 255 (f.holdover + 1) }).settleTrips
  let s := (s.extrapolate s.ctn.cycle).settleTrips
  if s.ctn.limits.holdover < s.ctn.fol.holdover ∧ s.ctn.state = .aligned then
    ((s.setNodeState .joining).onFol fun f => { f with align := 0, holdover := 0 }).settleTrips
  else s

/-- The timing close of the current cycle, whose boundary is `l` (R42 to R45). -/
def State.timingCloseAt (s : State) (l : Word) : State :=
  let c := s.ctn
  let est := c.fol.estimate l
  let e := est.map Prod.fst
  let taken := c.fol.seen.contains c.cycle
  let n := nextBoundary l s.cycleTicks c.fol.step e
  let s := s.onCtn fun c => { c with
    next := n.1
    fol := { c.fol with
      offset := match est with
        | some x => x.2
        | none => c.fol.offset
      step := n.2.1
      closed := some s.tick
      unaligned := if e.isSome then false else c.fol.unaligned || (s.cycling && taken)
      align := if c.state = .joining then alignAfter c.fol.align e else c.fol.align } }
  let s := s.when n.2.2 State.raiseStep
  if c.state = .joining then
    if s.ctn.fol.align = 8 ∧ c.plan.contains c.config.address then (s.setNodeState .aligned).settleTrips else s
  else s.when (!taken) State.missed

/-- The timing close of the current cycle. -/
def State.timingClose (s : State) : State :=
  match s.ctn.boundary with
  | some l => if s.ctn.fol.closed.isNone then s.timingCloseAt l else s
  | none => s

/-- Both timing copies of the current cycle have been taken (R42). -/
def State.closeWhenBoth (s : State) : State :=
  s.when (s.ctn.fol.thisA.isSome && s.ctn.fol.thisB.isSome) State.timingClose

/-- The instant of the timing close at the end of the arrival windows (R42). -/
def State.closeInstant (s : State) (l : Word) : Word :=
  let a := s.ctn.fol.offset.getD 0
  later l (max a (s.ctn.fol.delay - a) + s.ctn.limits.window)

/-- The next cycle of a follower begins: the arrivals noted for it are those of the current cycle now, the ports' counts are taken, and
only a grant of this cycle stays in hand (R43, R20, R155). -/
def State.startLocalCycle (s : State) : State :=
  let s := s.onCtn fun c => { c with
    boundary := some c.next, next := later c.next s.cycleTicks, cycle := c.cycle + 1, window := .before
    fol := { c.fol with
      closed := none, closedBefore := c.fol.closed, thisA := c.fol.nextA, thisB := c.fol.nextB, nextA := none, nextB := none } }
  s.portsAtBoundary.onPse fun u => { u with grant := u.grant.filter fun g => g.cycle == s.ctn.cycle }

/-- The local boundary event at its instant (R43, R46). -/
def State.localBoundary (s : State) : State :=
  let s := s.startLocalCycle
  ((s.when s.cycling State.boundaryWork).closeWhenBoth).refreshOffers

/-- A local boundary is acquired: `t` is the boundary of cycle `k` (R41). -/
def State.acquire (s : State) (k t : Word) (offset : Option Nat) : State :=
  s.onCtn fun c => { c with
    boundary := some t, next := later t s.cycleTicks, cycle := k, window := .before
    fol := { c.fol with
      offset := offset, align := 0, step := 0, closed := some s.tick, closedBefore := none, waited := none, acquisition := none
      thisA := none, thisB := none, nextA := none, nextB := none } }

/-- An unwrapped data copy at a follower without a local boundary (R41). -/
def State.acquisitionCopy (s : State) (copy : FibrePort) (k arrival : Word) : State :=
  match s.ctn.fol.acquisition with
  | none =>
    if s.ctn.fol.waited = some k then s
    else s.onFol fun f => { f with acquisition := some ⟨k, copy, arrival, later arrival s.cycleTicks⟩ }
  | some w =>
    if w.cycle = k ∧ w.copy ≠ copy then
      let tA := if copy = .a then arrival else w.arrival
      let tB := if copy = .a then w.arrival else arrival
      let d : Int := s.ctn.fol.delay
      let off := (sdiff tB tA - d) / 2
      s.acquire k (shifted tA off) (some (clamp 0 d (-off)).toNat)
    else s

/-- The wait of R41 has expired. -/
def State.acquisitionExpiry (s : State) (w : Acquisition) : State :=
  match s.ctn.fol.offset with
  | some a =>
    let back : Int := match w.copy with
      | .a => a
      | .b => (s.ctn.fol.delay : Int) - a
    s.acquire w.cycle (shifted w.arrival (-back)) (some a)
  | none => s.onFol fun f => { f with acquisition := none, waited := some w.cycle }

/-- A RESTART copy is taken (R36, R57, R65, R76, R118, R161). -/
def State.takeRestart (s : State) (source : Byte) (k : Word) : State :=
  let s := s.setNodeState .joining
  let s := s.onCtn fun c => { c.stopBoundary s.tick with
    plan := [], breakIx := none, window := .before, fol := { c.fol.unaligning with restart := some (source, k) } }
  let s := (s.onCfe Cfe.markCarried).onLu fun l => { l with window := [], jump := false }
  s.ringRestart.settleTrips

/-- The header of a data copy is taken (R40, R55, R57). -/
def State.takeHeader (s : State) (c : CycleBody) : State :=
  let before := s
  let plan := c.addresses
  let brk := breakOf c.breakIx
  let changed := s.ctn.plan != plan
  let moved := changed || s.ctn.breakIx != some brk
  let s := s.onCtn fun x => { x with
    plan := plan, breakIx := some brk
    fol := { x.fol with
      delay := c.delay.toNat, code := c.code.toNat, superLen := c.superLen.toNat, console := c.console
      lineZones := c.lineZones, rotating := c.rotating } }
  let s := s.when changed fun s => s.keepPlan plan
  let s := s.when moved State.recomputeRoutes
  let s := s.when (before.ctn.fol.console != c.console) fun s => s.onTeu fun u => { u with lastBroadcast := none }
  before.noteConsole s

/-- The first data copy of a cycle hands over the grant and ends the holdover (R55, R45). The grant replaces one still in hand: the
model's choice (log entry 100). -/
def State.takeFirst (s : State) (c : CycleBody) : State :=
  if s.ctn.fol.seen.contains c.cycle then s
  else
    let g := grantOf (c.grants.take c.grantCount.toNat) s.ctn.config.address c.cycle
    (s.onFol fun f => { f with seen := (c.cycle :: f.seen).take 2, holdover := 0 }).onPse fun u =>
      { u with grant := g.or u.grant }

/-- The copy is in step (R40): its arrival against the boundaries, and its number against the cycle number c as it stands at the good
close (log entry 88). -/
def Ctn.inStep (c : Ctn) (k arrival : Word) : Bool :=
  match c.boundary with
  | none => true
  | some l => (k == c.cycle && 0 ≤ sdiff arrival l) || (k == c.cycle + 1 && sdiff arrival c.next < 0)

/-- The copy arrived after the timing close of its cycle, the current one or the one before (R42; log entry 49). -/
def Ctn.late (c : Ctn) (k arrival : Word) : Bool :=
  c.boundary.isSome
    && ((k == c.cycle && c.fol.closed.any fun t => 0 < sdiff arrival t)
      || (k == c.cycle - 1 && c.fol.closedBefore.any fun t => 0 < sdiff arrival t))

/-- The arrival lies within W of the expected arrival of a copy for boundary `l` (R40). -/
def Ctn.onTime (c : Ctn) (copy : FibrePort) (l arrival : Word) : Bool :=
  let a : Int := (c.fol.offset.getD 0 : Nat)
  let expected : Int := match copy with
    | .a => a
    | .b => (c.fol.delay : Int) - a
  (sdiff arrival l - expected).natAbs ≤ c.limits.window

/-- The arrival of a timing copy is noted for its cycle. -/
def Follower.note (f : Follower) (copy : FibrePort) (now : Bool) (arrival : Word) : Follower :=
  match copy, now with
  | .a, true => { f with thisA := some arrival }
  | .b, true => { f with thisB := some arrival }
  | .a, false => { f with nextA := some arrival }
  | .b, false => { f with nextB := some arrival }

/-- An unwrapped in-step data copy is used for timing (R40 to R42). -/
def State.takeTiming (s : State) (copy : FibrePort) (k arrival : Word) : State :=
  match s.ctn.boundary with
  | none => s.acquisitionCopy copy k arrival
  | some l =>
    let now := k == s.ctn.cycle
    if s.ctn.onTime copy (if now then l else s.ctn.next) arrival then
      (s.onFol fun f => f.note copy now arrival).closeWhenBoth
    else s.raiseJitter

/-- A data copy is taken (R40, R55, R56, R73): `copy` is the copy when unwrapped. What a cycle jump leaves of the timing copies and
the timing close of the renumbered cycle is the model's choice (log entry 78), and so is that the sections are taken, and their events
handed to the TEU, in plan order (log entry 116). -/
def State.takeData (s : State) (copy : Option FibrePort) (arrival : Word) (c : CycleBody) : State :=
  let inStep := s.ctn.inStep c.cycle arrival
  let s := s.onFol fun f => { f with restart := none }
  let s := s.when (!inStep) fun s => (s.raiseJump.onCtn fun x => { x with
    cycle := c.cycle, fol := { x.fol with closedBefore := none } }).keepCarried c.cycle
  let s := (s.takeHeader c).takeFirst c
  let s := (c.sections.foldl (fun s x => s.offerSection c.cycle x) s).settleClass
  let s := (s.takeSample c).settleTrips
  match copy, inStep with
  | some copy, true => s.takeTiming copy c.cycle arrival
  | _, _ => s

/-- A cycle frame copy that closes good is classified at a follower (R36, R40, R42, R185). A RESTART copy outside its coding is not
taken either (log entry 81). -/
def State.classifyCopy (s : State) (p : FibrePort) (arrival : Word) (f : Frame) (c : CycleBody) : State :=
  let known := s.ctn.fol.lineAddress.isNone || s.ctn.fol.lineAddress == some f.source
  if !c.coded f.length.toNat || !known then s
  else if f.restart then
    if s.ctn.fol.restart = some (f.source, c.cycle) then s else s.takeRestart f.source c.cycle
  else
    let s := s.onFol fun x => { x with lineAddress := some f.source }
    if s.ctn.late c.cycle arrival then s.raiseJitter
    else s.takeData (if f.wrapped then none else some p.other) arrival c

end Sys2Proof.Machine
end

