-- ==== Sys2Proof/Machine/LinkCommands.lean ====
section
/-! DEFINITION. The meanings of the link events (R1, R2, R11, R19). A held node (R181) sees only the light's level. -/

namespace Sys2Proof.Machine

/-- Port `p` has become down (R11): own frames handed back are offered again. -/
def State.goDown (s : State) (p : FibrePort) (link : LinkState) : State :=
  ((s.onFibre p fun f => { f with link := link }).portDown p).refreshOffers

/-- LIGHT_APPEARS (R1). -/
def execLightAppears (p : FibrePort) (s : State) : Host.Outcome State Fault Refusal :=
  .next (s.onFibre p fun f =>
    if s.live && f.link == .dark then { f with light := true, link := .acquiring, idles := 0 } else { f with light := true })

/-- LIGHT_LOST (R1, R11). -/
def execLightLost (p : FibrePort) (s : State) : Host.Outcome State Fault Refusal :=
  let was := (s.fibre p).link
  let s := s.onFibre p fun f => { f with light := false }
  .next (if !s.live then s
    else match was with
      | .dark => s
      | .acquiring => s.onFibre p fun f => { f with link := .dark }
      | .locked => s.goDown p .dark)

/-- VALID_IDLE_RECEIVED (R1). -/
def execValidIdleReceived (p : FibrePort) (s : State) : Host.Outcome State Fault Refusal :=
  .next (if s.live && (s.fibre p).link == .acquiring then
      (if Config.idlesToLock ≤ (s.fibre p).idles + 1 then (s.portLocked p).refreshOffers
       else s.onFibre p fun f => { f with idles := f.idles + 1 })
    else s)

/-- A port's error count rises by one, saturating (R19). -/
def State.countError (s : State) (p : FibrePort) : State := s.onFibre p fun f => { f with errors := min 255 (f.errors + 1) }

/-- The lock error count of a LOCKED port reaches 8 (R1). -/
def State.loseLock (s : State) (p : FibrePort) : State :=
  (s.onFibre p fun f => { f with lockErrors := Config.lockErrorLimit, idles := 0 }).goDown p .acquiring

/-- CODE_ERROR (R1, R19). -/
def execCodeError (p : FibrePort) (s : State) : Host.Outcome State Fault Refusal :=
  .next (if !s.live then s
    else match (s.fibre p).link with
      | .dark => s
      | .acquiring => s.onFibre p fun f => { f with idles := 0 }
      | .locked =>
        if Config.lockErrorLimit ≤ (s.fibre p).lockErrors + 1 then (s.countError p).loseLock p
        else (s.countError p).onFibre p fun f => { f with lockErrors := f.lockErrors + 1 })

/-- CODE_LOCK (R1, R11, R12). -/
def execCodeLock (p : FibrePort) (s : State) : Host.Outcome State Fault Refusal :=
  .next (if s.live && (s.fibre p).link == .acquiring then (s.portLocked p).refreshOffers else s)

/-- LOCK_ERROR_LIMIT (R1, R11). -/
def execLockErrorLimit (p : FibrePort) (s : State) : Host.Outcome State Fault Refusal :=
  .next (if s.live && (s.fibre p).link == .locked then s.loseLock p else s)

/-- LOCK_ERROR_RESTART (R1): 500,000 ticks have passed at a node without a boundary. -/
def execLockErrorRestart (s : State) : Host.Outcome State Fault Refusal :=
  .next (if s.live && s.ctn.boundary.isNone then
      let due := later s.ctn.idleSince Config.lockErrorPeriod
      ((s.reach due).onCtn fun c => { c with idleSince := due }).onFpf fun x =>
        { x with a := { x.a with lockErrors := 0 }, b := { x.b with lockErrors := 0 } }
    else s)

end Sys2Proof.Machine
end

