-- ==== Sys2Proof/Machine/FrameCommands.lean ====
section
/-! DEFINITION. The meanings of the frame events at the fibre ports: header, closes and deliveries by kind, and the end of a
transmission (chapter 1; R184, R185). -/

namespace Sys2Proof.Machine

/-! ## The header (R6 to R13, R52, R34) -/

/-- The frame's source is the node (R8). -/
def State.isOwn (s : State) (f : Frame) : Bool := f.source == s.ctn.config.address

/-- The frame has gone round past the line node once already (R9). -/
def State.roundTwice (s : State) (f : Frame) : Bool := s.isLine && f.passed && !f.wrapped

/-- The line node sets PASSED in what it passes on (R9). -/
def State.passedOn (s : State) (f : Frame) : Frame := if s.isLine then f.withFlag 5 else f

/-- A transit frame received at port `p` and to be sent on. -/
def transitFrame (p : FibrePort) (f : Frame) (stillIncoming : Bool) : OutFrame :=
  ⟨f, .transit, p.other, if stillIncoming then some p else none, false, false, none, f.size, 0⟩

/-- The arbiter would send the frame now or admit it (R12, R13). -/
def Fibre.accepts (f : Fibre) (now : Word) (o : OutFrame) : Bool := f.free || f.yields now o || f.admits o.frame.size

/-- The transit frame is not discarded where it is presented (R10, R13, R52). -/
def State.passes (s : State) (o : OutFrame) : Bool :=
  if (s.fibre o.chosen).link == .locked then (s.fibre o.chosen).accepts s.tick o
  else o.frame.turned.isSome && (s.fibre o.chosen.other).accepts s.tick o

/-- The place of the node's own section in a passing copy, when R52 asks for it. -/
def State.ownPlace (s : State) (f : Frame) (c : CycleBody) : Option Nat :=
  if s.isFollower && s.cycling && s.ctn.fol.lineAddress == some f.source && !f.wrapped && !f.restart then
    c.addresses.idxOf? s.ctn.config.address
  else none

/-- A follower in JOINING outside the plan it holds (R34). -/
def State.waitsOutside (s : State) : Bool :=
  s.isFollower && s.ctn.state == .joining && !s.ctn.plan.isEmpty && !s.ctn.plan.contains s.ctn.config.address

/-- What is staged for a passing cycle frame copy and the frame as it is sent on (R52, R54, R34). -/
def State.changeCycle (s : State) (o : OutFrame) (c : CycleBody) : Frame × Option SectionWrite × Bool :=
  if s.waitsOutside then (o.frame.withFlag 1, none, false)
  else match s.ownPlace o.frame c with
    | some i =>
      match c.sections[i]? with
      | some x =>
        if !s.passes o then (o.frame, none, false)
        else if x.written then (o.frame, none, true)
        else
          let es := s.teu.eventsFor c.cycle
          let own := (s.clearedFor o).ownSection es
          ({ o.frame with body := .cycle { c with sections := c.sections.set i own } }, some ⟨own, c.cycle, es⟩, false)
      | none => (o.frame, none, false)
    | none => (o.frame, none, false)

/-- The reception at port `p` as the header leaves it. -/
def State.receive (s : State) (p : FibrePort) (r : Reception) : State := s.onFibre p fun f => { f with rx := some r }

/-- The copy meets R52 at this node, and the section of the node's own address arrives WRITTEN (R54). -/
def State.meetsOwnSection (s : State) (f : Frame) : Bool :=
  match f.body with
  | .cycle c => ((s.ownPlace f c).bind fun i => c.sections[i]?).any Section.written
  | .probe _ | .trip _ | .fragment _ | .tile _ | .other _ => false

/-- A frame is removed at its header (R7 to R9). A follower that shares its address with the line node sends on the copy in which it
meets the line node's section (R54; log entry 76). -/
def State.removes (s : State) (f : Frame) : Bool :=
  (s.isOwn f && !s.meetsOwnSection f) || f.dest == s.ctn.config.address || (s.isLine && f.kind == Kind.cycle)

/-- A frame with a good header is received at a LOCKED port (R6). -/
def State.header (s : State) (p : FibrePort) (arrival : Word) (f : Frame) : State :=
  let plain : Reception := ⟨arrival, none, false, false⟩
  let at_ := later arrival Config.latency
  if s.ctn.state = .passive then
    (if f.kind = Kind.probe then s.receive p plain else (s.receive p plain).sendOut (transitFrame p f true) at_)
  else if f.kind = Kind.probe then s.receive p plain
  else if s.removes f then s.receive p plain
  else if s.roundTwice f then (s.receive p plain).drop
  else
    let o := (transitFrame p f true).carrying (s.passedOn f)
    match f.body with
    | .cycle c =>
      let r := s.changeCycle o c
      (s.receive p ⟨arrival, r.2.1, r.2.2, false⟩).sendOut (o.carrying r.1) at_
    | .probe _ | .trip _ | .fragment _ | .tile _ | .other _ => (s.receive p plain).sendOut o at_

/-- FRAME_HEADER_RECEIVED (R3, R6): the header is in three ticks after the start delimiter. -/
def execFrameHeaderReceived (p : FibrePort) (arrival : Word) (frame : Option Frame) (s : State) :
    Host.Outcome State Fault Refusal :=
  .next (if !s.live then s
    else match (s.fibre p).link with
      | .dark => s
      | .acquiring => s.onFibre p fun f => { f with idles := 0 }
      | .locked =>
        let s := s.reach (later arrival 3)
        match frame with
        | some f =>
          if knownKind f.kind && validLength f.kind f.length.toNat then s.header p arrival f
          else (s.countError p).onFibre p fun x => { x with rx := none }
        | none => (s.countError p).onFibre p fun x => { x with rx := none })

/-! ## Closes -/

/-- The tick of the start delimiter of the frame being received: as recorded at its header (R5), else as the event gives it. -/
def State.arrivalAt (s : State) (p : FibrePort) (arrival : Word) : Word := ((s.fibre p).rx.map Reception.arrival).getD arrival

/-- The good close of the frame being received at port `p` (R4): its last byte has come, and it is closed onward with the end
delimiter. -/
def State.closeGood (s : State) (p : FibrePort) (arrival : Word) (f : Frame) : State :=
  (s.reach (later (s.arrivalAt p arrival) (frameTicks f.size))).closeFrame p none none

/-- A Soft Reset came while the frame at port `p` was being received, so that its close hands nothing over (R22; log entry 107). -/
def State.discards (s : State) (p : FibrePort) : Bool := (s.fibre p).rx.any Reception.discarded

/-- The node's own FRAGMENT with a single destination returns undelivered (R8, R152). -/
def State.undeliveredFragment (s : State) (handle : Byte) (id : Half) : State :=
  match indexOf 16 handle with
  | some h => (s.notePool (s.fragmentLost h id)).refreshOffers
  | none => s

/-- A PROBE that closes bad, as it is sent on: its bytes as received up to its declared size, stomped (R17, R4, R6). -/
def badProbe (p : FibrePort) (bs : List Byte) : OutFrame :=
  let f : Frame := ⟨byteAt bs 0, byteAt bs 1, BitVec.ofNat 16 (declaredSize bs - 8), byteAt bs 4, byteAt bs 5,
    .other ((bs.take (declaredSize bs - 4)).drop 6)⟩
  { transitFrame p f false with stomped := true, crc := some (receivedCrc bs), bytes := min f.size bs.length }

/-- The bytes of a frame that closes bad have come at port `p`: two a tick from the start delimiter of the frame being received
(log entry 2). -/
def State.reachClose (s : State) (p : FibrePort) (n : Nat) : State :=
  match (s.fibre p).rx with
  | some r => s.reach (later r.arrival (frameTicks n))
  | none => s

/-- A bad close (R4): counted, closed onward with the stomp delimiter, staging discarded; the undelivered record of R8 is made
however the frame closes, once its handle and strip id have come (log entry 74), but not when a Soft Reset found it in reception (log
entry 107). A PROBE is sent on whatever its destination, at a follower one of the own source too (log entry 97). -/
def State.closeBad (s : State) (p : FibrePort) (bs : List Byte) : State :=
  let handsOver := !s.discards p
  let s := ((s.reachClose p bs.length).countError p).closeFrame p (some bs.length) (some (receivedCrc bs))
  let own := s.ctn.state != .passive && byteAt bs 1 == s.ctn.config.address
  if byteAt bs 4 = Kind.probe then
    let o := badProbe p bs
    if own && s.isLine then s
    else if s.ctn.state = .passive then s.sendOut o (later s.tick Config.latency)
    else if s.roundTwice o.frame then s.drop
    else s.sendOut (o.carrying (s.passedOn o.frame)) (later s.tick Config.latency)
  else if handsOver && own && byteAt bs 4 == Kind.fragment && byteAt bs 0 != 0xFF && 9 ≤ bs.length then
    s.undeliveredFragment (byteAt bs 6) (byteAt bs 7 ++ byteAt bs 8)
  else s

/-- BAD_FRAME_CLOSE (R3, R4, R19). After the command by which the port leaves LOCKED it has no effect (log entry 96). A frame counted as
a framing error at its header is not counted again at its close, be it stomped or CRC-bad: the model's choice, for R19 speaks only of one
both stomped and of wrong size (log entry 108). -/
def execBadFrameClose (p : FibrePort) (received : List Byte) (closing : Closing) (s : State) :
    Host.Outcome State Fault Refusal :=
  .next (if s.live && (s.fibre p).link == .locked && headerGood received then
      match closeOf received closing with
      | .good => s
      | .crcBad | .stomped | .wrongSize => s.closeBad p received
    else s)

/-- A good close at a LOCKED port, and what a node not in PASSIVE does with the frame (R5), unless a Soft Reset has discarded its
content (R22; log entry 107). -/
def State.delivered (s : State) (p : FibrePort) (arrival : Word) (f : Frame) (act : State → State) : State :=
  if s.live && (s.fibre p).link == .locked then
    (s.closeGood p arrival f).when (s.ctn.state != .passive && !s.discards p) act
  else s

/-- The tick of the start delimiter of a frame whose event gives none: as recorded, else such that the frame closes now. -/
def State.arrivalNow (s : State) (f : Frame) : Word := s.tick - BitVec.ofNat 32 (frameTicks f.size)

/-! ## Cycle frames -/

/-- What a follower does with a cycle frame copy that closed good with reception `rx` (R53, R54, R40). The made write, with its own
events, comes before the header and the sections of the copy: the model's choice (log entry 103). -/
def State.followerCopy (s : State) (p : FibrePort) (rx : Option Reception) (arrival : Word) (f : Frame) (c : CycleBody) :
    State :=
  let s := match rx.bind Reception.write with
    | some w => s.madeWrite w
    | none => s
  if (rx.map Reception.conflict).getD false then s.conflict
  else (s.classifyCopy p arrival f c).refreshOffers

/-- DATA_COPY (R40, R53, R54). -/
def execDataCopy (p : FibrePort) (arrival : Word) (f : Frame) (s : State) : Host.Outcome State Fault Refusal :=
  let rx := (s.fibre p).rx
  let t := s.arrivalAt p arrival
  .next (s.notePool (s.delivered p arrival f fun s =>
    match f.body with
    | .cycle c => if s.isFollower then s.followerCopy p rx t f c else s
    | .probe _ | .trip _ | .fragment _ | .tile _ | .other _ => s))

/-- Which copy a returned frame is (R58). -/
def returnedAs (p : FibrePort) (wraps : Nat) : FibrePort :=
  if wraps = 1 then p else p.other

/-- The unwrapped copy `c` returned before its timeout expired (R38, R39); an A copy with a field outside its coding supplies no timing,
so it gives no D (R185; log entry 47). -/
def State.unwrappedReturn (s : State) (copy : FibrePort) (t : Word) (c : KeptCopy) : State :=
  match s.ctn.line.timer copy with
  | some x =>
    if sdiff t x.deadline < 0 then
      let s := s.when (copy == .a && c.coded) fun s => s.onLine fun l =>
        { l with delay := some (t - x.departure).toNat, measured := true, held := false }
      if x.running then (s.onLine fun l => l.stopTimer copy).setOpen copy false else s
    else s
  | none => s

/-- A returned copy is kept for the merge, once for each copy (R58). -/
def LineTiming.keep (l : LineTiming) (copy : FibrePort) (x : KeptCopy) : LineTiming :=
  match copy with
  | .a => { l with keptA := some x }
  | .b => { l with keptB := some x }

/-- The kept copy of the current cycle. -/
def LineTiming.kept (l : LineTiming) : FibrePort → Option KeptCopy
  | .a => l.keptA
  | .b => l.keptB

/-- A returned copy of the current cycle at the line node: the five conditions of R58, and the first of its kind (R38, R39, R34). A copy
of cycle k whose start delimiter came before boundary k + 1 and that closes good after it is used for nothing, as the merge is made: the
model's choice (log entry 115). -/
def State.lineCopy (s : State) (p : FibrePort) (t : Word) (f : Frame) (c : CycleBody) : State :=
  let copy := returnedAs p f.wraps
  let x : KeptCopy := ⟨f.wraps, f.joinPending, c⟩
  if s.cycling && s.isOwn f && c.cycle == s.ctn.cycle && !f.restart && (s.ctn.line.kept copy).isNone then
    let s := s.onLine fun l => l.keep copy x
    let s := s.when f.joinPending fun s => s.raiseDrive .joinPending
    s.when (f.wraps == 0) fun s => s.unwrappedReturn copy t x
  else s

/-- RETURNED_COPY (R58). -/
def execReturnedCopy (p : FibrePort) (arrival : Word) (f : Frame) (s : State) : Host.Outcome State Fault Refusal :=
  let t := s.arrivalAt p arrival
  .next (s.delivered p arrival f fun s =>
    match f.body with
    | .cycle c => if s.isLine then s.lineCopy p t f c else s
    | .probe _ | .trip _ | .fragment _ | .tile _ | .other _ => s)

/-! ## Probes -/

/-- The address stands in the probe as its source or in its list (R18). -/
def probeNames (f : Frame) (b : ProbeBody) (a : Byte) : Bool := f.source == a || (b.slots.take b.count.toNat).contains a

/-- The probe with an address appended (R17). -/
def appended (b : ProbeBody) (a : Byte) : ProbeBody :=
  { b with count := b.count + 1, slots := b.slots.set b.count.toNat a }

/-- The probe `f` goes on from port `p` after its good close, as `g` (R6, R9). -/
def State.forwardProbe (s : State) (p : FibrePort) (f g : Frame) : State :=
  if s.ctn.state = .passive then s.sendOut ((transitFrame p f false).carrying g) (later s.tick Config.latency)
  else if s.roundTwice f then s.drop
  else s.sendOut ((transitFrame p f false).carrying (s.passedOn g)) (later s.tick Config.latency)

/-- The probe is removed by its own line node, else goes on as it came (R8, R6). A follower sends one of its own source on too, where R8
would remove it and R17 sends a wrapped probe on: the model's choice (log entry 111). -/
def State.passProbe (s : State) (p : FibrePort) (f : Frame) : State :=
  if s.isLine && s.ctn.state != .passive && s.isOwn f then s else s.forwardProbe p f f

/-- The follower checks and appends to the probe (R17, R18, R185). One with a count above 47 goes on, be it of the own source (log entry
95), and so does one that came wrapped, be it of the own source (log entry 111), and one whose destination is the own address (log entry
97). -/
def State.probeHere (s : State) (p : FibrePort) (f : Frame) (b : ProbeBody) : State :=
  let a := s.ctn.config.address
  if s.isFollower && s.ctn.state != .passive && !f.wrapped && b.count.toNat ≤ 47 then
    if probeNames f b a then (s.forwardProbe p f f).conflict
    else if b.count.toNat < 47 then s.forwardProbe p f { f with body := .probe (appended b a) }
    else s.forwardProbe p f f
  else s.passProbe p f

/-- PROBE_AT_FOLLOWER (R17, R18). A probe whose start delimiter came before a Soft Reset and that closes after it goes on, with no
append and no conflict check (R22; log entry 77). -/
def execProbeAtFollower (p : FibrePort) (f : Frame) (s : State) : Host.Outcome State Fault Refusal :=
  .next (if s.live && (s.fibre p).link == .locked then
      let t := s.closeGood p (s.arrivalNow f) f
      match f.body with
      | .probe b => if s.discards p then t.passProbe p f else t.probeHere p f b
      | .cycle _ | .trip _ | .fragment _ | .tile _ | .other _ => t
    else s)

/-- The probe is the one in flight, returned before its timeout (R29). -/
def ProbeFlight.returns (x : ProbeFlight) (number : Byte) (t : Word) : Option Word :=
  match x.departure with
  | some d => if x.number = number ∧ (t - d).toNat < Config.probeTimeout then some d else none
  | none => none

/-- PROBE_RETURN (R29 to R33). -/
def execProbeReturn (p : FibrePort) (arrival : Word) (f : Frame) (s : State) : Host.Outcome State Fault Refusal :=
  let t := s.arrivalAt p arrival
  .next (s.delivered p arrival f fun s =>
    match f.body with
    | .probe b =>
      (match s.ctn.line.flight with
      | some x =>
        (match x.returns b.number t with
        | some d =>
          if s.isLine && s.ctn.state == .probing && s.isOwn f && b.count.toNat ≤ 47 then
            (s.probeReturned x.leg p d t f.wrapped b).settleTrips.refreshOffers
          else s
        | none => s)
      | none => s)
    | .cycle _ | .trip _ | .fragment _ | .tile _ | .other _ => s)

/-! ## Trips, fragments, tiles -/

/-- TRIP_FRAME (R116, R185). -/
def execTripFrame (p : FibrePort) (f : Frame) (s : State) : Host.Outcome State Fault Refusal :=
  .next (s.delivered p (s.arrivalNow f) f fun s =>
    match f.body with
    | .trip t => if t.coded && !s.isOwn f then s.takeTrip f.source t else s
    | .cycle _ | .probe _ | .fragment _ | .tile _ | .other _ => s)

/-- FRAGMENT (R159, R158, R185). -/
def execFragment (p : FibrePort) (f : Frame) (s : State) : Host.Outcome State Fault Refusal :=
  .next (s.notePool (s.delivered p (s.arrivalNow f) f fun s =>
    match f.body with
    | .fragment x =>
      if x.coded f.length.toNat && f.dest == s.ctn.config.address && !s.isOwn f then s.takeFragment f.source x f.last else s
    | .cycle _ | .probe _ | .trip _ | .tile _ | .other _ => s))

/-- TILE (R166, R185). -/
def execTile (p : FibrePort) (f : Frame) (s : State) : Host.Outcome State Fault Refusal :=
  .next (s.notePool (s.delivered p (s.arrivalNow f) f fun s =>
    match f.body with
    | .tile t =>
      if t.coded f.length.toNat && (f.dest == s.ctn.config.address || f.dest == 0xFF) && !s.isOwn f then s.takeTile f t
      else s
    | .cycle _ | .probe _ | .trip _ | .fragment _ | .other _ => s))

/-- UNDELIVERED (R8, R152): a TILE has no further effect. A FRAGMENT is recorded whatever its payload length says (log entry 93). -/
def execUndelivered (p : FibrePort) (f : Frame) (s : State) : Host.Outcome State Fault Refusal :=
  .next (s.delivered p (s.arrivalNow f) f fun s =>
    match f.body with
    | .fragment x => if s.isOwn f && f.dest != 0xFF then s.undeliveredFragment x.handle x.stripId else s
    | .cycle _ | .probe _ | .trip _ | .tile _ | .other _ => s)

/-! ## The end of a transmission (R12, R13, R153, R165) -/

/-- What an own frame's close at the transmitter does for its builder. -/
def State.builderClose (s : State) (o : OutFrame) : State :=
  match o.origin with
  | .ownFragment h id last _ => s.fragmentClosed h id last
  | .ownTile => (match o.frame.body with
    | .tile t => s.tileClosed t
    | .cycle _ | .probe _ | .trip _ | .fragment _ | .other _ => s)
  | .transit | .ownTrip | .ownCycle _ | .ownProbe => s

/-- The frame as it has left at the end of its transmission (R4). -/
def Transmission.finished (x : Transmission) : SentFrame := ⟨x.out, x.out.bytes, if x.out.stomped then .stomped else .ended⟩

/-- The transmission `x` out of port `p` ends. -/
def State.endTransmission (s : State) (p : FibrePort) (x : Transmission) : State :=
  let s := (s.reach x.ends).onFibre p fun f => { f with tx := none, sent := some x.finished }
  ((s.builderClose x.out).pickNext p (s.reach x.ends).tick).refreshOffers

/-- TRANSMISSION_END (R12). -/
def execTransmissionEnd (p : FibrePort) (s : State) : Host.Outcome State Fault Refusal :=
  .next (match (s.fibre p).tx with
    | some x => if s.live && x.out.incoming.isNone then s.endTransmission p x else s
    | none => s)

end Sys2Proof.Machine
end

