-- ==== Sys2Proof/Machine/TimerCommands.lean ====
section
/-! DEFINITION. The meanings of the timer events: probe and return timers, boundaries, timing closes, the async window, camera
pulses. Each acts at its stored instant; an event whose timer is not running has no effect (log entries 2 and 38). -/

namespace Sys2Proof.Machine

/-- PROBE_TIMEOUT (R29 to R33). The flight is over at this event: a probe whose start delimiter came before it and that closes good after
it is lost all the same, the model's choice (log entry 112). -/
def execProbeTimeout (s : State) : Host.Outcome State Fault Refusal :=
  .next (match s.ctn.line.flight with
    | some x =>
      match x.departure with
      | some d =>
        if s.live then ((s.reach (later d Config.probeTimeout)).probeLost x.leg).settleTrips.refreshOffers else s
      | none => s
    | none => s)

/-- PROBE_REPEAT_TIMER (R33). -/
def execProbeRepeatTimer (s : State) : Host.Outcome State Fault Refusal :=
  .next (match s.ctn.line.repeatAt with
    | some t => if s.live && s.ctn.state == .probing then (s.reach t).sendProbe .a else s
    | none => s)

/-- LINE_NODE_BOUNDARY (R37). -/
def execLineNodeBoundary (s : State) : Host.Outcome State Fault Refusal :=
  .next (if s.live && s.isLine && s.cycling && s.ctn.boundary.isSome then (s.reach s.ctn.next).lineBoundary else s)

/-- LOCAL_BOUNDARY (R43). -/
def execLocalBoundary (s : State) : Host.Outcome State Fault Refusal :=
  .next (if s.live && s.isFollower && s.ctn.boundary.isSome then s.notePool ((s.reach s.ctn.next).localBoundary) else s)

/-- TIMING_CLOSE (R42 to R45), at the end of the arrival windows. -/
def execTimingClose (s : State) : Host.Outcome State Fault Refusal :=
  .next (match s.ctn.boundary with
    | some l =>
      if s.live && s.isFollower && s.ctn.fol.closed.isNone then (s.reach (s.closeInstant l)).timingClose.refreshOffers
      else s
    | none => s)

/-- ACQUISITION_WAIT_EXPIRY (R41). The wait is over at this event: a second copy whose start delimiter came before it and that closes good
after it does not end the wait, the model's choice (log entry 114). -/
def execAcquisitionWaitExpiry (s : State) : Host.Outcome State Fault Refusal :=
  .next (match s.ctn.fol.acquisition with
    | some w => if s.live && s.isFollower then (s.reach w.deadline).acquisitionExpiry w else s
    | none => s)

/-- RETURN_TIMEOUT (R39). -/
def execReturnTimeout (copy : FibrePort) (s : State) : Host.Outcome State Fault Refusal :=
  .next (match s.ctn.line.timer copy with
    | some x =>
      if s.live && x.running then (s.reach x.deadline).returnExpires copy else s
    | none => s)

/-- The opening of the async window after a boundary (R155). -/
def State.windowOpen (s : State) (l : Word) : Word := later l (s.delay + cfTicks s.ctn.plan.length)

/-- The async window of the cycle is not empty (R155). -/
def State.windowExists (s : State) : Bool :=
  s.delay + cfTicks s.ctn.plan.length + s.delay + Config.asyncTail < s.cycleTicks

/-- The closing of the async window after a boundary, where it is not empty (R155). -/
def State.windowEnd (s : State) (l : Word) : Word := later l (s.cycleTicks - (s.delay + Config.asyncTail))

/-- ASYNC_WINDOW_OPEN (R155). -/
def execAsyncWindowOpen (s : State) : Host.Outcome State Fault Refusal :=
  .next (match s.ctn.boundary with
    | some l =>
      if s.live && s.cycling && s.ctn.window == .before && s.windowExists then
        ((s.reach (s.windowOpen l)).onCtn fun c => { c with window := .inside, windowClose := s.windowEnd l }).refreshOffers
      else s
    | none => s)

/-- ASYNC_WINDOW_CLOSE (R155): the grant in hand lapses and the frame offered is withdrawn. -/
def execAsyncWindowClose (s : State) : Host.Outcome State Fault Refusal :=
  .next (if s.live && s.ctn.window == .inside then
      ((s.reach s.ctn.windowClose).onCtn fun c => { c with window := .after }).onPse fun u =>
        { u with offer := none, grant := u.grant.filter fun g => g.cycle != s.ctn.cycle }
    else s)

/-- PULSE_START (R129, R130): the first scheduled pulse begins, when none is in progress. -/
def execPulseStart (line : Fin 4) (s : State) : Host.Outcome State Fault Refusal :=
  let c := s.tgu.lines.get line
  .next (match c.inProgress, c.nextPulse with
    | none, some x =>
      if s.live then
        ((s.reach x.start).onTgu fun g => { g with
          lines := g.lines.update line fun c => { c with schedule := beginFirst c.schedule } }).addStamp x.content
      else s
    | _, _ => s)

/-- PULSE_END (R129). -/
def execPulseEnd (line : Fin 4) (s : State) : Host.Outcome State Fault Refusal :=
  .next (match (s.tgu.lines.get line).inProgress with
    | some x =>
      if s.live then
        (s.reach (later x.start x.width)).onTgu fun g => { g with
          lines := g.lines.update line fun c => { c with schedule := c.schedule.filter fun y => !y.begun } }
      else s
    | none => s)

end Sys2Proof.Machine
end

