-- ==== Sys2Proof/Machine/PinCommands.lean ====
section
/-! DEFINITION. The meanings of the pin events: trip inputs (R106) and resets (R181, R183). -/

namespace Sys2Proof.Machine

/-- Input `x`'s filter changed. -/
def State.onFilter (s : State) (x : Fin 4) (f : InputFilter → InputFilter) : State :=
  s.onTru fun t => { t with filters := t.filters.update x f }

/-- TRIP_INPUT_CHANGE (R106): the count restarts; with a filter time of 0 the filtered state follows at once. -/
def execTripInputChange (input : Fin 4) (active : Bool) (s : State) : Host.Outcome State Fault Refusal :=
  let f := s.tru.filters.get input
  .next (if f.level = active then s
    else if !s.live then s.onFilter input fun f => { f with level := active }
    else if f.time = 0 then (s.onFilter input fun f => { f with level := active, since := s.tick, filtered := active }).settleTrips
    else s.onFilter input fun f => { f with level := active, since := s.tick })

/-- FILTER_TIME_ELAPSED (R106). -/
def execFilterTimeElapsed (input : Fin 4) (s : State) : Host.Outcome State Fault Refusal :=
  let f := s.tru.filters.get input
  .next (if s.live && f.filtered != f.level then
      ((s.reach (later f.since (f.time * Config.ticksPerMicrosecond))).onFilter input fun f =>
        { f with filtered := f.level }).settleTrips
    else s)

/-! ## Power-on reset and the reset pin (R181) -/

/-- A fibre port as a reset leaves it, with the light at its receiver as it is (R2); a frame being sent is cut short by idle
characters (R22). -/
def Fibre.held (f : Fibre) (now : Word) : Fibre := { Fibre.reset with light := f.light, sent := f.cutShort now .idle }

/-- A serial port as a reset leaves it, with its select line as it is (R183). -/
def Serial.held (x : Serial) : Serial := { Serial.reset with tr := { Transaction.reset with select := x.tr.select } }

/-- An input filter as a reset leaves it: the filter time is `time`, the pin's level is as it is (R106). -/
def InputFilter.held (f : InputFilter) (time : Nat) : InputFilter := { InputFilter.reset with time := time, level := f.level }

/-- The trip unit at power-on reset. -/
def TripUnit.powered (t : TripUnit) : TripUnit :=
  { TripUnit.reset with filters := t.filters.map fun f => f.held 20 }

/-- The trip unit at the reset pin: the table, the lock and the filter times are kept (R181, R106, R108, R111). -/
def TripUnit.pinned (t : TripUnit) : TripUnit :=
  { TripUnit.reset with
    entries := t.entries.map fun e => e.map fun x => { x with latch := false }
    locked := t.locked
    filters := t.filters.map fun f => f.held f.time }

/-- The node is held in reset: every block holds its reset values (R181; log entry 25). The tick counter runs on, and the levels
at the pins are as they are. -/
def State.holdReset (s : State) (h : ResetHold) (t : TripUnit) : State :=
  { State.reset with
    tick := s.tick, hold := some h, tru := t, cause := s.cause, free := s.free, pending := s.pending
    fpf := { Fpf.reset with a := s.fpf.a.held s.tick, b := s.fpf.b.held s.tick }
    drive := s.drive.held, panel := s.panel.held }

/-- POWER_ON_RESET (R181). -/
def execPowerOnReset (s : State) : Host.Outcome State Fault Refusal := .next (s.holdReset .power s.tru.powered)

/-- RESET_PIN (R181): while power-on reset holds the node, the reset is a power-on reset. -/
def execResetPin (s : State) : Host.Outcome State Fault Refusal :=
  .next (if s.hold = some .power then s else s.holdReset .pin s.tru.pinned)

/-- A receiver at the end of a reset acquires from whatever light it finds (R2). -/
def Fibre.released (f : Fibre) : Fibre := if f.light then { f with link := .acquiring, idles := 0 } else f

/-- The cause that the end of a reset records (R183). -/
def ResetHold.cause : ResetHold → ResetCause
  | .power => .power
  | .pin => .pin

/-- RESET_END (R183, R106, R109, R1). -/
def execResetEnd (s : State) : Host.Outcome State Fault Refusal :=
  .next (match s.hold with
    | some h =>
      let s := { s with hold := none, cause := h.cause }
      let s := s.onFpf fun x => { x with a := x.a.released, b := x.b.released }
      let s := s.onCtn fun c => { c with idleSince := s.tick }
      (s.onTru fun t => { t with filters := t.filters.map fun f => { f with filtered := false, since := s.tick } }).settleTrips
    | none => s)

end Sys2Proof.Machine
end

