-- ==== Sys2Proof/Machine/PortCommands.lean ====
section
/-! DEFINITION. The meanings of the transaction events of the serial ports and of the commands permitted on either port
(chapter 11; R62, R107, R112, R122). -/

namespace Sys2Proof.Machine

/-! ## Transaction events (R172 to R174) -/

/-- A port's transaction record changed. -/
def State.onTr (s : State) (p : SerialPort) (f : Transaction → Transaction) : State :=
  s.onSerial p fun x => { x with tr := f x.tr }

/-- FRAMING is raised and counted (R173, R174). -/
def State.framing (s : State) (p : SerialPort) : State :=
  (s.onTr p fun t => { t with framing := min 255 (t.framing + 1) }).raiseFraming p

/-- A command byte can complete: select has fallen and no byte is complete yet, or the event stands for the fall as well (log
entry 3). -/
def Transaction.opening (t : Transaction) : Bool := t.state == .command || (t.state == .idle && !t.select)

/-- UNKNOWN_COMMAND (R174). -/
def execUnknownCommand (p : SerialPort) (code : Byte) (s : State) : Host.Outcome State Fault Refusal :=
  .next (if s.live && (s.serial p).tr.opening && !knownCommand code then
      (s.onTr p fun t => { t with select := true, state := .discard, command := some code, denied := false, response := [] }).framing p
    else s)

/-- The data phase of a Write Strip Data ends: the last write result is replaced (R149). -/
def State.endWriting (s : State) : State :=
  match s.pse.writing with
  | some w => s.onPse fun u => { u with writing := none, lastWrite := some ⟨w.handle, w.outcome, w.stored⟩ }
  | none => s

/-- The data phase of a Post Tile ends before its last data byte: the post is void (R163). -/
def State.voidPost (s : State) : State :=
  match s.teu.posting with
  | some p =>
    (s.onTeu fun u => { u with posting := none, lastPost := some ⟨.range, 0, p.dest, p.screen, p.index⟩ }).refreshOffers
  | none => s

/-- What the end of a transaction does in the state it finds (R173). -/
def State.endPhase (s : State) (p : SerialPort) (midByte : Bool) : State :=
  match (s.serial p).tr.state with
  | .command => s.when midByte fun s => s.framing p
  | .parameters => s.framing p
  | .data =>
    if (s.serial p).tr.denied then s
    else if (s.serial p).tr.command = some 0x45 then s.endWriting
    else if (s.serial p).tr.command = some 0x4E then s.voidPost
    else s
  | .idle | .turnaround | .response | .discard | .cutOff => s

/-- TRANSACTION_END (R172, R173): select rises. -/
def execTransactionEnd (p : SerialPort) (midByte : Bool) (s : State) : Host.Outcome State Fault Refusal :=
  .next (if s.live then
      (s.endPhase p midByte).onTr p fun t => { t with select := false, state := .idle, denied := false, turned := 0, lanes := none, response := [] }
    else s.onTr p fun t => { t with select := false })

/-- SELECT_FALLS (R172, R181). -/
def execSelectFalls (p : SerialPort) (s : State) : Host.Outcome State Fault Refusal :=
  .next (s.onTr p fun t =>
    if s.live && t.state == .idle && !t.select then { t with select := true, state := .command }
    else { t with select := true })

/-- COMMAND_BYTE_ARRIVAL (R172, R174, R50): the command byte of a known command with parameters completes. -/
def execCommandByteArrival (p : SerialPort) (code : Byte) (s : State) : Host.Outcome State Fault Refusal :=
  .next (if s.live && (s.serial p).tr.opening && knownCommand code && !parameterless code then
      s.onTr p fun t =>
        { t with select := true, state := .parameters, command := some code, denied := !permitted p code, response := [] }
    else s)

/-! ## Status and events (R177 to R179) -/

/-- The configuration record, in the order and widths of Configure Node. -/
def configBytes (c : NodeConfig) : List Byte :=
  [c.address, c.role.code] ++ bytesOf 2 c.membership ++ beBytes 1 c.code ++ beBytes 1 c.superLen ++ [c.console]
    ++ bytesOf 2 c.lineZones

/-- The six timing limits, in the order and widths of Set Timing Limits. -/
def timingBytes (l : TimingLimits) : List Byte :=
  beBytes 2 l.window ++ beBytes 1 l.holdover ++ beBytes 2 l.returnMargin ++ beBytes 1 l.driveRead ++ beBytes 1 l.degrade
    ++ beBytes 4 l.resync

/-- The latest sample, or its absence (R79). -/
def sampleBytes (x : Option Sample) : List Byte :=
  optionBytes 16 (fun x => bytesOf 4 x.boundary ++ bytesOf 6 x.p ++ bytesOf 4 x.v ++ [x.state.code, x.origin.code]) x

/-- The line unit items of R79. -/
def State.lineItems (s : State) : List Byte :=
  sampleBytes s.lu.latest
    ++ (if s.isLine then signedBytes 4 s.lu.target ++ [boolByte s.lu.restartPending] else [])
    ++ (if s.isFollower then beBytes 1 s.ctn.fol.holdover ++ signedBytes 6 s.lu.lastJump ++ [boolByte s.lu.jump] else [])

/-- The page counts FREE, STRIP and TILE (R145). -/
def State.pageBytes (s : State) : List Byte := beBytes 2 s.freePages ++ beBytes 2 s.stripPages ++ beBytes 2 s.tilePages

/-- The transaction record of port `q` as a Read Status on port `p` returns it: the issuing port's as it stood before, the other port's
as it stands at the arrival of the command byte, which is the model's choice (log entry 105). -/
def State.recordFor (s : State) (p q : SerialPort) : List Byte :=
  let t := (s.serial q).tr
  transactionBytes (if p = q then .idle else t.state) t

/-- The items of Read Status, in the order of R177. -/
def State.statusItems (s : State) (p : SerialPort) : List Byte :=
  [s.ctn.state.code] ++ configBytes s.ctn.config ++ timingBytes s.ctn.limits ++ beBytes 1 s.axe.markAge
    ++ beBytes 4 s.axe.registerSpeed ++ [boolByte s.tru.locked]
    ++ flagBytes 1 [s.ctn.fol.unaligned, s.ctn.line.tooSlow]
    ++ flagBytes 1 [(s.serial p).cycleJump, (s.serial p).cycleJitter, (s.serial p).step]
    ++ s.lineItems ++ beBytes 1 s.reads ++ s.pageBytes ++ beBytes 2 s.pse.drops ++ writeResultBytes s.pse.lastWrite
    ++ postResultBytes s.teu.lastPost ++ s.recordFor p .drive ++ s.recordFor p .panel

/-- READ_STATUS (R177). -/
def execReadStatus (p : SerialPort) (s : State) : Host.Outcome State Fault Refusal :=
  .next (s.command p 0x01 fun s =>
    ⟨s.onSerial p fun x => { x with cycleJump := false, cycleJitter := false, step := false }, .ok, s.statusItems p⟩)

/-- The level events whose conditions hold are raised on port `p` (R179). -/
def State.raiseLevels (s : State) (p : SerialPort) : State :=
  match p with
  | .drive => s.when (s.tru.effective != 0) fun s => s.raiseDrive .tripActive
  | .panel => (s.when (s.tru.effective != 0) fun s => s.raisePanel .tripActive).when s.poolLow fun s => s.raisePanel .poolLow

/-- READ_EVENTS (R179). -/
def execReadEvents (p : SerialPort) (s : State) : Host.Outcome State Fault Refusal :=
  .next (s.command p 0x02 fun s =>
    ⟨(s.onSerial p fun x => { x with pending := 0 }).raiseLevels p, .ok,
      bytesOf 2 (s.serial p).pending ++ bytesOf 2 (s.serial p).mask⟩)

/-- SET_EVENT_MASK (R179). -/
def execSetEventMask (p : SerialPort) (mask : Half) (s : State) : Host.Outcome State Fault Refusal :=
  .next (s.command p 0x03 fun s =>
    ⟨s.onSerial p fun x => { x with mask := mask &&& listMask p }, .ok, bytesOf 2 (mask &&& listMask p)⟩)

/-! ## Trips (R107, R112, R122) -/

/-- The trip codes of a port (R107). -/
def TripUnit.codes (t : TripUnit) : SerialPort → Byte
  | .drive => t.driveCodes
  | .panel => t.panelCodes

/-- The trip codes of a port take a value. -/
def TripUnit.setCodes (t : TripUnit) (p : SerialPort) (codes : Byte) : TripUnit :=
  match p with
  | .drive => { t with driveCodes := codes }
  | .panel => { t with panelCodes := codes }

/-- The trip codes of port `p` take a value, and the sources change with them (R107). -/
def State.takeCodes (s : State) (p : SerialPort) (codes : Byte) : Answer :=
  ⟨(s.onTru fun t => t.setCodes p codes).settleTrips, .ok, [codes]⟩

/-- RAISE_TRIP (R107). -/
def execRaiseTrip (p : SerialPort) (code : Byte) (s : State) : Host.Outcome State Fault Refusal :=
  .next (s.command p 0x04 fun s =>
    if 7 < code.toNat then s.refuse .range else s.takeCodes p (setBit (s.tru.codes p) code.toNat))

/-- DROP_TRIP (R107). -/
def execDropTrip (p : SerialPort) (code : Byte) (s : State) : Host.Outcome State Fault Refusal :=
  .next (s.command p 0x05 fun s =>
    if 7 < code.toNat then s.refuse .range else s.takeCodes p (clearBit (s.tru.codes p) code.toNat))

/-- A Reset Trip clears the latch of the entry (R112). -/
def State.resetsLatch (s : State) (mask : Word) (i : Fin 32) (e : TripEntry) : Bool :=
  mask.getLsbD i && e.mode == .latched && e.latch && !s.sourceActive e.source

/-- The latches that a Reset Trip clears are cleared (R112). -/
def State.clearLatches (s : State) (mask : Word) : State :=
  let clear (i : Fin 32) (x : TripEntry) : TripEntry := if s.resetsLatch mask i x then { x with latch := false } else x
  s.onTru fun t => { t with entries := t.entries.mapIdx fun i e => e.map (clear i) }

/-- The mask of the latched entries. -/
def TripUnit.latchedMask (t : TripUnit) : Word :=
  BitVec.ofNat 32 (bitsNat (t.entries.list.map fun e => (e.map TripEntry.latch).getD false))

/-- RESET_TRIP (R112, R78). -/
def execResetTrip (p : SerialPort) (mask : Word) (s : State) : Host.Outcome State Fault Refusal :=
  .next (s.command p 0x06 fun s =>
    let cleared := s.clearLatches mask
    let t := (cleared.when (s.lineLostLatch && !cleared.lineLostLatch) State.releaseLineLost).settleClass
    ⟨t, .ok, bytesOf 4 t.tru.latchedMask⟩)

/-- The line trip class, which may be none (R71), with its presence byte (12.4; log entry 85). -/
def lineClassBytes (cls : Nat) : List Byte := optionBytes 1 (fun c => [byteOf c 0]) (if cls = 0 then none else some cls)

/-- The items of Read Trips, in the order of R122. -/
def State.tripItems (s : State) : List Byte :=
  let t := s.tru
  t.entries.list.flatMap (optionBytes 6 fun e =>
      [byteOf e.source.val 0, byteOf e.cls 0] ++ bytesOf 2 e.zones ++ [e.mode.code, boolByte e.latch])
    ++ (List.finRange 26).map (fun i => boolByte (s.sourceActive i))
    ++ t.filters.list.flatMap (fun f => beBytes 2 f.time)
    ++ [t.driveCodes, t.panelCodes]
    ++ [byteOf t.summaryClass 0] ++ bytesOf 2 t.summaryZones ++ [t.summaryCause] ++ bytesOf 2 t.seq
    ++ t.remote.list.flatMap (optionBytes 11 fun r =>
      [byteOf r.cls 0] ++ bytesOf 2 r.zones ++ [r.cause] ++ bytesOf 2 r.seq ++ bytesOf 4 r.seen ++ [boolByte r.carried])
    ++ [byteOf t.effective 0] ++ (if s.isLine then lineClassBytes s.lineClass else []) ++ [boolByte t.locked]

/-- READ_TRIPS (R122). -/
def execReadTrips (p : SerialPort) (s : State) : Host.Outcome State Fault Refusal :=
  .next (s.command p 0x07 fun s => ⟨s, .ok, s.tripItems⟩)

/-! ## Ring and sections (R177, R62) -/

/-- A port's items of Read Ring. -/
def Fibre.items (f : Fibre) : List Byte := f.link.code :: (beBytes 1 f.errors ++ beBytes 1 f.published)

/-- The line zone mask and the rotating start as last held (R177). -/
def State.heldZones (s : State) : Half := if s.isLine then s.ctn.config.lineZones else s.ctn.fol.lineZones
def State.heldRotating (s : State) : Byte := if s.isLine then byteOf s.pse.rotate 0 else s.ctn.fol.rotating

/-- The items of Read Ring, in the order of R177; PLAN_TOO_SLOW, which R33 has it report, comes last (log entry 45). Its flags take one
byte each: the model's choice (log entry 106). -/
def State.ringItems (s : State) : List Byte :=
  let l := s.ctn.line
  s.fpf.a.items ++ s.fpf.b.items ++ beBytes 2 s.fpf.drops ++ listBytes (fun a => [a]) s.ctn.plan
    ++ optionBytes 1 (fun b => [b.code]) s.ctn.breakIx ++ s.fpf.routes.list.map Route.code
    ++ [s.console] ++ bytesOf 2 s.heldZones ++ [s.heldRotating]
    ++ (if s.isLine then
        optionBytes 4 (beBytes 4) l.delay
          ++ [boolByte l.held, boolByte l.openA, boolByte l.openB, boolByte l.joinPending, boolByte l.tooSlow]
      else [])

/-- READ_RING (R177). -/
def execReadRing (p : SerialPort) (s : State) : Host.Outcome State Fault Refusal :=
  .next (s.command p 0x08 fun s => ⟨s, .ok, s.ringItems⟩)

/-- READ_SECTION (R62). -/
def execReadSection (p : SerialPort) (address : Byte) (s : State) : Host.Outcome State Fault Refusal :=
  .next (s.command p 0x09 fun s =>
    match addressIndex address with
    | none => s.refuse .range
    | some i =>
      if address = s.ctn.config.address then
        match s.cfe.own with
        | some (x, k) => ⟨s, .ok, sectionBytes x ++ bytesOf 4 k⟩
        | none => s.refuse .unknown
      else
        match s.cfe.table.get i with
        | some e => ⟨s, .ok, sectionBytes e.sec ++ bytesOf 4 e.cycle ++ [boolByte e.carried]⟩
        | none => s.refuse .unknown)

/-! ## Soft Reset (R182, R183) -/

/-- A fibre port at Soft Reset: a frame being sent is closed at once with the stomp delimiter, and the content of a frame being received
is discarded (R13, R20, R22). -/
def Fibre.softReset (f : Fibre) (now : Word) : Fibre :=
  { f with
    errors := if f.link = .locked then 0 else 255, published := 0, tx := none, waiting := []
    rx := f.rx.map fun r => { r with write := none, conflict := false, discarded := true }
    sent := f.cutShort now .stomped }

/-- A port controller at Soft Reset; the transaction of the port that did not issue it is cut off, and what remains of its response
reads as zero (R178, R182, R183). -/
def Serial.softReset (x : Serial) (issuing : Bool) : Serial :=
  let t := { x.tr with framing := 0 }
  { x with
    pending := 0, cycleJump := false, cycleJitter := false, step := false
    tr := if issuing || t.state == .idle then t else { t with
      state := .cutOff, turned := 0, response := []
      lanes := if t.state == .turnaround || t.state == .response then some 0 else none } }

/-- An axis at Soft Reset: the contexts are kept (R80, R81). -/
def Axis.softReset (a : Axis) : Axis := { Axis.reset with ctxA := a.ctxA, ctxB := a.ctxB }

/-- The axis engine at Soft Reset (R81, R144). -/
def AxisEngine.softReset (x : AxisEngine) : AxisEngine :=
  { AxisEngine.reset with axes := x.axes.map Axis.softReset, markAge := x.markAge, registerSpeed := x.registerSpeed }

/-- The packet store at Soft Reset (R162). -/
def PacketStore.softReset (u : PacketStore) : PacketStore :=
  { PacketStore.reset with
    quota := u.quota, reserve := u.reserve, tileCap := u.tileCap, stripCap := u.stripCap, gap := u.gap, nextId := u.nextId }

/-- The tile and event unit at Soft Reset (R171). -/
def TileUnit.softReset (u : TileUnit) : TileUnit :=
  { TileUnit.reset with postSeq := u.postSeq, broadcast := u.broadcast, firstDue := false }

/-- The trigger unit at Soft Reset, but for its marks (R135). -/
def TriggerUnit.softReset (g : TriggerUnit) : TriggerUnit :=
  { g with lines := g.lines.map fun c => { c with schedule := [] }, stamps := [] }

/-- The trip unit at Soft Reset: latches cleared, remote records emptied, no source handed over yet (R109, R118). -/
def TripUnit.softReset (t : TripUnit) : TripUnit :=
  { t with
    entries := t.entries.map fun e => e.map fun x => { x with latch := false }
    active := Tab.const 26 false
    remote := Tab.const 48 none }

/-- Every block takes its Soft Reset values (R182). -/
def State.softReset (s : State) (p : SerialPort) : State :=
  let s := { s with drive := s.drive.softReset (p == SerialPort.drive), panel := s.panel.softReset (p == SerialPort.panel) }
  let s := ((s.onTgu TriggerUnit.softReset).setNodeState .passive).onCtn fun c => { c.passive s.tick with idleSince := s.tick }
  let s := s.onFpf fun x => { a := x.a.softReset s.tick, b := x.b.softReset s.tick, drops := 0, routes := Tab.const 48 .none }
  let s := { s with cfe := Cfe.reset, axe := s.axe.softReset, pse := s.pse.softReset, teu := s.teu.softReset
                    tru := s.tru.softReset, reads := 0, cause := .soft
                    lu := { LineUnit.reset with limits := s.lu.limits, seed := s.lu.seed } }
  let s := s.settleTrips
  let s := s.onTgu fun g => { g with triggers := g.triggers.map fun t => t.setMark s.tru.effective }
  ((s.when (s.tru.effective != 0) State.raiseTripActive)).when s.poolLow fun s => s.raisePanel .poolLow

/-- Soft Reset is refused (R182). -/
def State.refusesSoftReset (s : State) : Bool :=
  s.ctn.state == .run
    || (s.isLine && s.ctn.state == .aligned && s.lineState.any fun x => x != .halt && x != .tripHold)

/-- SOFT_RESET (R182). -/
def execSoftReset (p : SerialPort) (s : State) : Host.Outcome State Fault Refusal :=
  .next (s.command p 0x0A fun s => if s.refusesSoftReset then s.refuse .notNow else ⟨s.softReset p, .ok, []⟩)

/-- READ_RESET_CAUSE (R183). -/
def execReadResetCause (p : SerialPort) (s : State) : Host.Outcome State Fault Refusal :=
  .next (s.command p 0x0B fun s => ⟨s, .ok, [s.cause.code]⟩)

end Sys2Proof.Machine
end

