-- ==== Sys2Proof/Machine/DriveCommands.lean ====
section
/-! DEFINITION. The meanings of the drive port's commands (R24 to R27, R35, R51, R67, R68, R82, R83, R95, R101, R102, R110, R111,
R141). Where a rule lists its checks, they are made in that order; elsewhere in the order of its text (log entry 21). -/

namespace Sys2Proof.Machine

/-! ## Node state and configuration -/

/-- The configuration record that the parameters spell, when every field is in range (R24). -/
def configOf (c : ConfigureParams) : Option NodeConfig :=
  match roleOf c.role with
  | some role =>
    if c.address.toNat ≤ 48 ∧ inRange 2 32 c.code.toNat ∧ inRange 1 64 c.superLen.toNat ∧ c.console.toNat ≤ 48 then
      some ⟨c.address, role, c.membership, c.code.toNat, c.superLen.toNat, c.console, c.lineZones⟩
    else none
  | none => none

/-- A taken Configure Node (R24, R28, R119, R150). -/
def State.configure (s : State) (c : NodeConfig) : State :=
  let old := s.ctn.config
  let new := s.onCtn fun x => { x with config := c }
  let new := new.when (s.ctn.state == .joining && (old.address != c.address || old.role != c.role)) State.enterPassive
  (s.noteConsole new).settleTrips

/-- CONFIGURE_NODE (R24). -/
def execConfigureNode (p : SerialPort) (c : ConfigureParams) (s : State) : Host.Outcome State Fault Refusal :=
  .next (s.command p 0x20 fun s =>
    if s.ctn.state != .passive && s.ctn.state != .joining then s.refuse .notNow
    else match configOf c with
      | some x => ⟨s.configure x, .ok, []⟩
      | none => s.refuse .range)

/-- What a taken Join clears at either role (R26). -/
def State.joinClear (s : State) : State :=
  let s := (s.emptyWindow.onCfe fun c => { c with own := none, table := Tab.const 48 none }).onTru fun t =>
    { t with remote := Tab.const 48 none }
  (s.onTeu fun u => { u with repaints := Tab.const 48 none }).forgetCarried.settleClass

/-- The alignment record that a follower enters JOINING with (R26). -/
def Follower.joining (f : Follower) : Follower := { f.unaligning with offset := none, delay := 0, restart := none }

/-- A taken Join (R26, R29). -/
def State.join (s : State) : State :=
  let s := s.joinClear
  if s.isLine then ((s.setNodeState .probing).sendProbe .a).settleTrips
  else
    ((s.setNodeState .joining).onCtn fun c =>
      { c with plan := [], breakIx := none, cycle := 0, fol := c.fol.joining }).settleTrips

/-- JOIN (R26). -/
def execJoin (p : SerialPort) (s : State) : Host.Outcome State Fault Refusal :=
  .next (s.command p 0x21 fun s =>
    if s.ctn.state == .passive && s.ctn.config.address != 0 && s.ctn.config.role != .none then ⟨s.join, .ok, []⟩
    else s.refuse .notNow)

/-- START (R27, R103). -/
def execStart (p : SerialPort) (s : State) : Host.Outcome State Fault Refusal :=
  .next (s.command p 0x22 fun s =>
    if s.ctn.state == .aligned && s.lineState == some .halt then
      ⟨({ s.setNodeState .run with reads := 0 }).settleTrips, .ok, []⟩
    else s.refuse .notNow)

/-- STOP (R27, R100). -/
def execStop (p : SerialPort) (s : State) : Host.Outcome State Fault Refusal :=
  .next (s.command p 0x23 fun s =>
    if s.ctn.state == .run && (s.lineState == some .halt || s.lineState == some .tripHold) then
      ⟨(s.setNodeState .aligned).settleTrips, .ok, []⟩
    else s.refuse .notNow)

/-- A taken Ring Restart (R35, R65, R67, R118, R161). -/
def State.askRestart (s : State) : State :=
  ((s.onLine fun l => { l with restartAsked := true }).onLu fun l =>
    { l with restartPending := true, target := 0 }).ringRestart

/-- RING_RESTART (R35). -/
def execRingRestart (p : SerialPort) (s : State) : Host.Outcome State Fault Refusal :=
  .next (s.command p 0x24 fun s =>
    if s.isLine && s.cycling && s.lineState == some .halt then ⟨s.askRestart, .ok, []⟩ else s.refuse .notNow)

/-! ## The line (R67, R68) -/

/-- Set Line Speed is taken (R67). -/
def State.takesSpeed (s : State) : Bool :=
  s.isLine && s.cycling && s.lineState != some .tripRamp && s.lineState != some .tripHold && s.lineClass == 0
    && !s.lu.restartPending

/-- SET_LINE_SPEED (R67). -/
def execSetLineSpeed (p : SerialPort) (speed : Word) (s : State) : Host.Outcome State Fault Refusal :=
  .next (s.command p 0x25 fun s =>
    let v := clamp (-(s.lu.limits.vRev : Int)) s.lu.limits.vMax speed.toInt
    if s.takesSpeed then
      ⟨s.onLu fun l => { l with target := v }, if v = speed.toInt then .ok else .clamped, signedBytes 4 v⟩
    else s.refuse .notNow)

/-- Set Line Limits is taken in the state and line state (R68). -/
def State.takesLimits (s : State) : Bool :=
  !s.isLine || s.ctn.state == .passive || s.ctn.state == .probing
    || (s.cycling && s.lineState == some .halt && s.lu.target == 0)

/-- The limits that the parameters spell, when every one is in range (R68). -/
def lineLimitsOf (l : LineLimitParams) : Option LineLimits :=
  let steps := [l.aUp, l.aDn, l.aTrip, l.aLocal]
  if l.vMax.toNat < 2 ^ 31 ∧ l.vRev.toNat < 2 ^ 31 ∧ steps.all fun a => inRange 1 (2 ^ 24) a.toNat then
    some ⟨l.vMax.toNat, l.vRev.toNat, l.aUp.toNat, l.aDn.toNat, l.aTrip.toNat, l.aLocal.toNat⟩
  else none

/-- SET_LINE_LIMITS (R68). -/
def execSetLineLimits (p : SerialPort) (l : LineLimitParams) (s : State) : Host.Outcome State Fault Refusal :=
  .next (s.command p 0x26 fun s =>
    if !s.takesLimits then s.refuse .notNow
    else match lineLimitsOf l with
      | some x => ⟨s.onLu fun u => { u with limits := x }, .ok, []⟩
      | none => s.refuse .range)

/-! ## Axes (R82, R83, R95, R101, R102, R141) -/

/-- The context that the parameters spell, when every field but the gain is in range; the gain is clamped (R82, R80). -/
def contextOf (c : ContextParams) : Option AxisContext :=
  match axisModeOf c.mode, boolOf c.marks with
  | some mode, some marks =>
    if 1 ≤ c.den.toNat ∧ c.oSlew.toNat ≤ 2 ^ 24 ∧ c.limit.toNat < 2 ^ 31 ∧ c.tSlew.toNat ≤ 2 ^ 24 then
      some ⟨mode, c.num.toInt, c.den.toNat, c.oTarget.toInt, c.oSlew.toNat, marks, min 256 c.gain.toNat, c.limit.toNat,
        c.tSlew.toNat, c.quality.toNat, c.deadband.toNat⟩
    else none
  | _, _ => none

/-- Context B of an axis is written. -/
def State.putContext (s : State) (i : Fin 8) (c : AxisContext) : State :=
  s.onAxe fun x => { x with axes := x.axes.update i fun a => { a with ctxB := c } }

/-- WRITE_AXIS_CONTEXT (R82). -/
def execWriteAxisContext (p : SerialPort) (axis : Byte) (c : ContextParams) (s : State) : Host.Outcome State Fault Refusal :=
  .next (s.command p 0x27 fun s =>
    match indexOf 8 axis with
    | none => s.refuse .range
    | some i =>
      if s.axe.commit.getLsbD i then s.refuse .busy
      else match contextOf c with
        | none => s.refuse .range
        | some x =>
          if 256 < c.gain.toNat then ⟨s.putContext i x, .clamped, beBytes 2 x.gain⟩ else ⟨s.putContext i x, .ok, []⟩)

/-- COMMIT_CONTEXT (R83). -/
def execCommitContext (p : SerialPort) (mask : Byte) (s : State) : Host.Outcome State Fault Refusal :=
  .next (s.command p 0x28 fun s =>
    ⟨s.onAxe fun x => { x with commit := x.commit ||| mask }, .ok, [s.axe.commit ||| mask]⟩)

/-- WITHDRAW_COMMIT (R83). -/
def execWithdrawCommit (p : SerialPort) (mask : Byte) (s : State) : Host.Outcome State Fault Refusal :=
  .next (s.command p 0x29 fun s =>
    ⟨s.onAxe fun x => { x with commit := x.commit &&& ~~~mask }, .ok, [s.axe.commit &&& ~~~mask]⟩)

/-- RE_PHASE (R95). -/
def execRePhase (p : SerialPort) (mask : Byte) (s : State) : Host.Outcome State Fault Refusal :=
  .next (s.command p 0x2A fun s =>
    if s.cycling && s.lineState == some .halt then
      ⟨s.onAxe fun x => { x with rePhase := x.rePhase ||| mask }, .ok, [s.axe.rePhase ||| mask]⟩
    else s.refuse .notNow)

/-- T* of the listed axes is set to 0 and TRIM_LIMIT settled (R141, R140). -/
def AxisEngine.clearTrim (x : AxisEngine) (mask : Byte) : AxisEngine :=
  { x with axes := x.axes.mapIdx fun i a => if mask.getLsbD i then ({ a with tStar := 0 }).settleTrim else a }

/-- CLEAR_TRIM (R141). -/
def execClearTrim (p : SerialPort) (mask : Byte) (s : State) : Host.Outcome State Fault Refusal :=
  .next (s.command p 0x2B fun s => ⟨(s.onAxe fun x => x.clearTrim mask).settleTrips, .ok, [mask]⟩)

/-- The items of Read Axis, in the order of R102. -/
def State.axisItems (s : State) (i : Fin 8) : List Byte :=
  let a := s.axe.axes.get i
  contextBytes a.ctxA ++ contextBytes a.ctxB ++ bytesOf 6 a.q ++ beBytes 2 a.r ++ signedBytes 4 a.o ++ signedBytes 4 a.t
    ++ signedBytes 4 a.tStar ++ optionBytes 6 (bytesOf 6) a.anchor ++ flagBytes 1 [a.phaseLost, a.trimLimit, a.slewing]
    ++ [boolByte (s.axe.commit.getLsbD i), boolByte (s.axe.rePhase.getLsbD i)]
    ++ optionBytes 6 (fun r => bytesOf 4 r.boundary ++ [r.switched, r.refused]) s.axe.report ++ [s.axe.commit]

/-- READ_AXIS (R102). -/
def execReadAxis (p : SerialPort) (axis : Byte) (s : State) : Host.Outcome State Fault Refusal :=
  .next (s.command p 0x2C fun s =>
    match indexOf 8 axis with
    | some i => ⟨s, .ok, s.axisItems i⟩
    | none => s.refuse .range)

/-- The eight records of the published set (R101, 12.4). -/
def State.setpointItems (s : State) : List Byte :=
  (List.finRange 8).flatMap fun i => recordBytes i.val (s.axe.published.get i)

/-- READ_SETPOINTS (R101, R103). -/
def execReadSetpoints (p : SerialPort) (s : State) : Host.Outcome State Fault Refusal :=
  .next (s.command p 0x2D fun s => ⟨({ s with reads := 0 }).settleTrips, .ok, s.setpointItems⟩)

/-- PUBLISH_WORDS (R51). -/
def execPublishWords (p : SerialPort) (words : Tab Byte 6) (s : State) : Host.Outcome State Fault Refusal :=
  .next (s.command p 0x2E fun s => ⟨s.onCfe fun c => { c with words := words }, .ok, []⟩)

/-! ## Trip table and limits (R110, R111, R25) -/

/-- What a Write Trip Entry writes, when its fields are in range (R110 check 3, R175): `none` in the result empties the entry. The
class, the latch mode and the filter time are checked for an emptied entry as well. -/
def tripEntryOf (e : TripEntryParams) : Option (Fin 32 × Option TripEntry) :=
  match indexOf 32 e.index, latchModeOf e.latchMode with
  | some i, some mode =>
    if inRange 1 3 e.cls.toNat ∧ e.filterTime.toNat ≤ 255 then
      if e.source = 0xFF then some (i, none)
      else (indexOf 26 e.source).map fun src => (i, some ⟨src, e.cls.toNat, e.zones, mode, false⟩)
    else none
  | _, _ => none

/-- Another entry than `i` holds the source (R110 check 4). -/
def TripUnit.heldElsewhere (t : TripUnit) (i : Fin 32) (src : Fin 26) : Bool :=
  (List.finRange 32).any fun k => k != i && ((t.entries.get k).any fun e => e.source == src)

/-- The filter time of an input's entry is written (R106, R110). -/
def State.putFilterTime (s : State) (src : Fin 26) (time : Nat) : State :=
  if h : src.val < 4 then s.onFilter ⟨src.val, h⟩ fun f => { f with time := time } else s

/-- The entry is written, and its latch evaluated at once from its source (R110, R109, R114). -/
def State.putTripEntry (s : State) (i : Fin 32) (e : TripEntry) (time : Nat) : State :=
  let e := e.follow (s.sourceActive e.source)
  let s := (s.putFilterTime e.source time).onTru fun t => { t with entries := t.entries.set i (some e) }
  (s.when e.latch fun s => s.announce e).settleClass

/-- WRITE_TRIP_ENTRY (R110). -/
def execWriteTripEntry (p : SerialPort) (e : TripEntryParams) (s : State) : Host.Outcome State Fault Refusal :=
  .next (s.command p 0x2F fun s =>
    if s.tru.locked then s.refuse .tableLocked
    else if s.ctn.state = .run then s.refuse .notNow
    else match tripEntryOf e with
      | none => s.refuse .range
      | some (i, x) =>
        if x.any fun x => s.tru.heldElsewhere i x.source then s.refuse .range
        else if (s.tru.entries.get i).any TripEntry.latch then s.refuse .busy
        else match x with
          | some x => ⟨s.putTripEntry i x e.filterTime.toNat, .ok, []⟩
          | none => ⟨(s.onTru fun t => { t with entries := t.entries.set i none }).settleClass, .ok, []⟩)

/-- LOCK_TRIP_TABLE (R111). -/
def execLockTripTable (p : SerialPort) (s : State) : Host.Outcome State Fault Refusal :=
  .next (s.command p 0x30 fun s => ⟨s.onTru fun t => { t with locked := true }, .ok, []⟩)

/-- The timing limits that the parameters spell, when every one is in range (R25, R104, R21, R76). -/
def timingLimitsOf (l : TimingLimitParams) : Option TimingLimits :=
  if inRange 8 1024 l.window.toNat ∧ inRange 1 15 l.holdover.toNat ∧ l.returnMargin.toNat ≤ 4095
      ∧ inRange 1 16 l.driveRead.toNat ∧ 1 ≤ l.degrade.toNat then
    some ⟨l.window.toNat, l.holdover.toNat, l.returnMargin.toNat, l.driveRead.toNat, l.degrade.toNat, l.resync.toNat⟩
  else none

/-- SET_TIMING_LIMITS (R25). -/
def execSetTimingLimits (p : SerialPort) (l : TimingLimitParams) (s : State) : Host.Outcome State Fault Refusal :=
  .next (s.command p 0x31 fun s =>
    if s.ctn.state != .passive && s.ctn.state != .joining then s.refuse .notNow
    else match timingLimitsOf l with
      | none => s.refuse .range
      | some x =>
        if s.tru.locked then s.refuse .tableLocked
        else ⟨(s.onCtn fun c => { c with limits := x }).settleTrips, .ok, []⟩)

end Sys2Proof.Machine
end

