-- ==== Sys2Proof/Machine/PanelCommands.lean ====
section
/-! DEFINITION. The meanings of the panel port's trigger and register correction commands (R125, R134, R136 to R139, R142). -/

namespace Sys2Proof.Machine

/-! ## Triggers (R125, R134) -/

/-- The trigger entry that the parameters spell, when every field but the lead is in range; the lead is clamped (R125). -/
def triggerOf (t : TriggerParams) : Option (Fin 16 × Trigger) :=
  match indexOf 16 t.index, boolOf t.enabled, triggerModeOf t.mode, indexOf 4 t.line with
  | some i, some enabled, some mode, some line =>
    if 1 ≤ t.everyNth.toNat ∧ t.phase.toNat < t.everyNth.toNat ∧ inRange 1 3 t.threshold.toNat then
      some (i, ⟨enabled, mode, t.angle, line, t.everyNth.toNat, t.phase.toNat, min 500000 t.lead.toNat, t.axisMask,
        t.threshold.toNat, .idle⟩)
    else none
  | _, _, _, _ => none

/-- WRITE_TRIGGER_ENTRY (R125, R131). A form byte above 2 is refused at its arrival; the forms 1 and 2 belong to the two other
rows (log entry 30). -/
def execWriteTriggerEntry (p : SerialPort) (form : Byte) (t : TriggerParams) (s : State) : Host.Outcome State Fault Refusal :=
  .next (if form = 1 ∨ form = 2 then s
    else s.command p 0x40 fun s =>
      match triggerOf t with
      | some (i, x) =>
        let x := x.setMark s.tru.effective
        if form ≠ 0 then s.refuse .range
        else ⟨s.onTgu fun g => { g with triggers := g.triggers.set i x }, if 500000 < t.lead.toNat then .clamped else .ok,
          triggerBytes x⟩
      | none => s.refuse .range)

/-- WRITE_TRIGGER_LINE (R125). -/
def execWriteTriggerLine (p : SerialPort) (line : Byte) (width : Half) (s : State) : Host.Outcome State Fault Refusal :=
  .next (s.command p 0x40 fun s =>
    match indexOf 4 line with
    | some k =>
      if 125 ≤ width.toNat then
        ⟨s.onTgu fun g => { g with lines := g.lines.update k fun c => { c with width := width.toNat } }, .ok, []⟩
      else s.refuse .range
    | none => s.refuse .range)

/-- WRITE_TRIGGER_LIFETIME (R125). -/
def execWriteTriggerLifetime (p : SerialPort) (lifetime : Byte) (s : State) : Host.Outcome State Fault Refusal :=
  .next (s.command p 0x40 fun s =>
    if lifetime = 0 then s.refuse .range else ⟨s.onTgu fun g => { g with lifetime := lifetime.toNat }, .ok, []⟩)

/-- The items of Read Stamps (12.4). -/
def TriggerUnit.items (g : TriggerUnit) : List Byte :=
  [byteOf g.stamps.length 0, g.nextId] ++ beBytes 1 g.lifetime ++ g.lines.list.flatMap (fun c => beBytes 2 c.width)
    ++ g.stamps.flatMap stampBytes

/-- READ_STAMPS (R134). -/
def execReadStamps (p : SerialPort) (s : State) : Host.Outcome State Fault Refusal :=
  .next (s.command p 0x41 fun s => ⟨s, .ok, s.tgu.items⟩)

/-! ## Register correction (R136 to R139, R142) -/

/-- Outcomes of a Post Mark, with their codes (12.4). -/
inductive MarkOutcome
  | applied | appliedLimited | axisNotFollow | marksDisabled | stampUnknown | axisNotInTrigger | duplicate | stale
  | lowQuality | tripped | slow | deadband
  deriving DecidableEq, Repr

def MarkOutcome.code : MarkOutcome → Byte
  | .applied => 0 | .appliedLimited => 1 | .axisNotFollow => 2 | .marksDisabled => 3 | .stampUnknown => 4
  | .axisNotInTrigger => 5 | .duplicate => 6 | .stale => 7 | .lowQuality => 8 | .tripped => 9 | .slow => 10 | .deadband => 11

/-- The stamp of an id (R137). -/
def TriggerUnit.stamp (g : TriggerUnit) (id : Byte) : Option Stamp := g.stamps.find? fun x => x.id == id

/-- The mark is older than A_m, or no age can be formed (R138). -/
def State.staleMark (s : State) (x : Stamp) : Bool :=
  match s.lu.latest with
  | some y => s.axe.markAge < (repeatOf y.p - x.content.repeatNo).toNat
  | none => true

/-- The line is slower than V_reg (R138). -/
def State.slowLine (s : State) : Bool :=
  match s.lu.latest with
  | some y => y.v.toInt < s.axe.registerSpeed
  | none => true

/-- The first check of R137 that holds, if any. -/
def State.checkMark (s : State) (i : Fin 8) (id : Byte) (e : Int) (quality : Byte) : Option MarkOutcome :=
  let c := (s.axe.axes.get i).ctxA
  if c.mode ≠ .follow then some .axisNotFollow
  else if !c.marks then some .marksDisabled
  else match s.tgu.stamp id with
    | none => some .stampUnknown
    | some x =>
      if !x.content.axisMask.getLsbD i then some .axisNotInTrigger
      else if x.marked.getLsbD i then some .duplicate
      else if s.staleMark x then some .stale
      else if quality.toNat < c.quality then some .lowQuality
      else if s.tru.effective = 1 ∨ s.tru.effective = 2 then some .tripped
      else if s.slowLine then some .slow
      else if e.natAbs ≤ c.deadband then some .deadband
      else none

/-- The axis joins the stamp's axes-marked set (R133). -/
def State.markStamp (s : State) (i : Fin 8) (id : Byte) : State :=
  s.onTgu fun g => { g with stamps := g.stamps.map fun x => if x.id = id then { x with marked := setBit x.marked i } else x }

/-- The requested trim step (R139): truncation toward zero. -/
def trimStep (gain : Nat) (e : Int) : Int := -(Int.tdiv (gain * e) 256)

/-- T* of an axis after the step, clamped to [−L, L], with TRIM_LIMIT settled (R139, R140). -/
def Axis.trimmed (a : Axis) (step : Int) : Axis :=
  ({ a with tStar := clamp (-(a.ctxA.limit : Int)) a.ctxA.limit (a.tStar + step) }).settleTrim

/-- What a Post Mark with a legal axis does: the state, the outcome, the step it reports (R136, R137, R139). -/
def State.applyMark (s : State) (i : Fin 8) (id : Byte) (e : Int) (quality : Byte) : State × MarkOutcome × Int :=
  let a := s.axe.axes.get i
  match s.checkMark i id e quality with
  | some .deadband => (s.markStamp i id, .deadband, 0)
  | some o => (s, o, 0)
  | none =>
    let step := trimStep a.ctxA.gain e
    let s := (s.markStamp i id).onAxe fun x => { x with axes := x.axes.set i (a.trimmed step) }
    (s, if (a.trimmed step).tStar = a.tStar + step then .applied else .appliedLimited, step)

/-- POST_MARK (R136). -/
def execPostMark (p : SerialPort) (axis stampId : Byte) (error : Word) (quality : Byte) (s : State) :
    Host.Outcome State Fault Refusal :=
  .next (s.command p 0x42 fun s =>
    match indexOf 8 axis with
    | none => s.refuse .range
    | some i =>
      let r := s.applyMark i stampId error.toInt quality
      let a := r.1.axe.axes.get i
      ⟨(r.1.raisePanel .markResult).settleTrips, .ok,
        [r.2.1.code] ++ signedBytes 5 r.2.2 ++ signedBytes 4 a.tStar ++ [boolByte a.trimLimit]⟩)

/-- SET_MARK_LIMITS (R142). -/
def execSetMarkLimits (p : SerialPort) (age : Byte) (speed : Word) (s : State) : Host.Outcome State Fault Refusal :=
  .next (s.command p 0x43 fun s =>
    if inRange 1 16 age.toNat ∧ speed.toNat < 2 ^ 31 then
      ⟨s.onAxe fun x => { x with markAge := age.toNat, registerSpeed := speed.toNat }, .ok, [age] ++ bytesOf 4 speed⟩
    else s.refuse .range)

end Sys2Proof.Machine
end

