-- ==== Sys2Proof/Machine/StripCommands.lean ====
section
/-! DEFINITION. The meanings of the panel port's strip commands (R146, R148 to R152, R160). -/

namespace Sys2Proof.Machine

/-- The lowest-numbered free descriptor (R148). -/
def PacketStore.freeDescriptor (u : PacketStore) : Option (Fin 16) :=
  (List.finRange 16).find? fun h => (u.descriptors.get h).strip.isNone

/-- A taken Open Strip: the stamp is CLAIMED and copied, the descriptor OPEN with the next strip id (R148). -/
def State.openStrip (s : State) (h : Fin 16) (x : Stamp) (length : Nat) (p : Priority) : State :=
  let x := { x with claimed := true }
  (s.onTgu fun g => { g with stamps := g.stamps.map fun y => if y.id = x.id then x else y }).onPse fun u =>
    { u with
      descriptors := u.descriptors.set h ⟨some ⟨u.nextId, x, length, [], 0, p, .opened, .none, 0, false⟩, none⟩
      nextId := u.nextId + 1 }

/-- OPEN_STRIP (R148). -/
def execOpenStrip (p : SerialPort) (stampId : Byte) (length : Word) (priority : Byte) (s : State) :
    Host.Outcome State Fault Refusal :=
  .next (s.command p 0x44 fun s =>
    match priorityOf priority with
    | none => s.refuse .range
    | some pr =>
      if length.toNat = 0 ∨ 262144 < length.toNat then s.refuse .range
      else match s.tgu.stamp stampId with
        | none => s.refuse .unknown
        | some x =>
          if x.claimed then s.refuse .busy
          else match s.pse.freeDescriptor with
            | none => s.refuse .full
            | some h => ⟨s.openStrip h x length.toNat pr, .ok, byteOf h.val 0 :: bytesOf 2 s.pse.nextId⟩)

/-- The outcome of the parameter checks of Write Strip Data (R149). -/
def State.checkWrite (s : State) (handle : Byte) (offset : Word) : Status :=
  match indexOf 16 handle with
  | none => .range
  | some h =>
    match s.strip h with
    | none => .unknown
    | some x =>
      if x.state ≠ .opened then .notNow else if offset.toNat ≠ x.data.length then .range else .ok

/-- WRITE_STRIP_DATA (R149): its parameters. -/
def execWriteStripData (p : SerialPort) (handle : Byte) (offset : Word) (s : State) : Host.Outcome State Fault Refusal :=
  .next (match s.arrival p 0x45 with
    | .ignored => s
    | .denied => s.stream p 0x45 true
    | .taken => (s.stream p 0x45 false).onPse fun u => { u with writing := some ⟨handle, s.checkWrite handle offset, 0⟩ })

/-- A data byte belongs to the data phase of the streaming command with this code (R172). -/
def State.dataFor (s : State) (p : SerialPort) (code : Byte) : Bool :=
  let t := (s.serial p).tr
  s.live && t.state == .data && t.command == some code && !t.denied

/-- The byte is stored, or ends the appending with RANGE or FULL (R149). -/
def State.appendByte (s : State) (w : StripWriting) (h : Fin 16) (x : Strip) (b : Byte) : State :=
  let ends (o : Status) : State := s.onPse fun u => { u with writing := some { w with outcome := o } }
  if x.data.length = x.declared then ends .range
  else if x.data.length % Config.pageBytes = 0 ∧ s.stripPagesAvailable = 0 then ends .full
  else
    (s.putStrip h { x with data := x.data ++ [b], pages := pagesFor (x.data.length + 1) }).onPse fun u =>
      { u with writing := some { w with stored := w.stored + 1 } }

/-- WRITE_STRIP_DATA_BYTE (R149, R145). -/
def execWriteStripDataByte (p : SerialPort) (byte : Byte) (s : State) : Host.Outcome State Fault Refusal :=
  .next (match s.pse.writing with
    | some w =>
      match indexOf 16 w.handle with
      | some h =>
        match s.strip h with
        | some x => if s.dataFor p 0x45 && w.outcome == .ok then s.notePool (s.appendByte w h x byte) else s
        | none => s
      | none => s
    | none => s)

/-- A command that names a descriptor: RANGE above 15, UNKNOWN when free (R150 to R152). -/
def State.onHandle (s : State) (handle : Byte) (act : Fin 16 → Strip → Answer) : Answer :=
  match indexOf 16 handle with
  | none => s.refuse .range
  | some h =>
    match s.strip h with
    | none => s.refuse .unknown
    | some x => act h x

/-- A taken command that leaves the state `s'`, in which the offers are renewed. -/
def State.done (s' : State) : Answer := ⟨s'.refreshOffers, .ok, []⟩

/-- A strip is closed (R150). -/
def State.closeStrip (s : State) (h : Fin 16) (x : Strip) : Answer :=
  if x.state ≠ .opened then s.refuse .notNow
  else if x.data.length = 0 then (s.freeDescriptor h x false).done
  else if s.isConsole then
    match s.reassemble h x with
    | some t => t.done
    | none => s.refuse .full
  else ((s.putStrip h { x with declared := x.data.length, state := .queued }).onPse fun u => u.joinBack h x.priority).done

/-- CLOSE_STRIP (R150). -/
def execCloseStrip (p : SerialPort) (handle : Byte) (s : State) : Host.Outcome State Fault Refusal :=
  .next (s.command p 0x46 fun s => s.onHandle handle s.closeStrip)

/-- A strip leaves the send order for HELD (R151). -/
def State.holdNow (s : State) (h : Fin 16) (x : Strip) : State := (s.leaveOrder h).putStrip h { x with state := .held }

/-- A strip is held (R151). -/
def State.holdStrip (s : State) (h : Fin 16) (x : Strip) : Answer :=
  match x.state with
  | .opened => s.refuse .notNow
  | .queued => (s.holdNow h x).done
  | .sending =>
    if !s.fragmentOut h x.id then (s.holdNow h x).done
    else match x.pending with
      | .none => (s.putStrip h { x with pending := .hold }).done
      | .hold => s.done
      | .cancel => s.refuse .notNow
  | .held => s.done

/-- HOLD_STRIP (R151). -/
def execHoldStrip (p : SerialPort) (handle : Byte) (s : State) : Host.Outcome State Fault Refusal :=
  .next (s.command p 0x47 fun s => s.onHandle handle s.holdStrip)

/-- A strip is released (R151). -/
def State.releaseStrip (s : State) (h : Fin 16) (x : Strip) : Answer :=
  match x.state with
  | .opened | .queued => s.refuse .notNow
  | .sending => if x.pending = .hold then (s.putStrip h { x with pending := .none }).done else s.refuse .notNow
  | .held => ((s.putStrip h { x with state := .queued }).onPse fun u => u.joinFront h x.priority).done

/-- RELEASE_STRIP (R151). -/
def execReleaseStrip (p : SerialPort) (handle : Byte) (s : State) : Host.Outcome State Fault Refusal :=
  .next (s.command p 0x48 fun s => s.onHandle handle s.releaseStrip)

/-- A strip is cancelled (R152). -/
def State.cancelStrip (s : State) (h : Fin 16) (x : Strip) : Answer :=
  if s.fragmentOut h x.id then ((s.putStrip h { x with pending := .cancel }).leaveOrder h).done
  else (s.endStrip h x .cancelled).done

/-- CANCEL_STRIP (R152). -/
def execCancelStrip (p : SerialPort) (handle : Byte) (s : State) : Host.Outcome State Fault Refusal :=
  .next (s.command p 0x49 fun s => s.onHandle handle s.cancelStrip)

/-- A descriptor as List Strips returns it (R160). The declared length takes 4 bytes: the model's choice (log entry 99). -/
def stripBytes (x : Strip) : List Byte :=
  bytesOf 2 x.id ++ stampBytes x.stamp ++ beBytes 4 x.declared ++ beBytes 3 x.data.length ++ beBytes 3 x.sent
    ++ [x.priority.code, x.state.code, x.pending.code]

/-- An incoming strip record as List Strips returns it (R160), the declared length in 4 bytes (log entry 99). -/
def stripRecordBytes (r : StripRecord) : List Byte :=
  [r.source] ++ bytesOf 2 r.stripId ++ stampBytes r.stamp ++ beBytes 4 r.declared ++ beBytes 3 r.data.length
    ++ [r.state.code] ++ bytesOf 4 r.lastCycle

/-- The items of List Strips, in the order of R160. -/
def State.stripItems (s : State) : List Byte :=
  let u := s.pse
  u.descriptors.list.flatMap (fun d => optionBytes 40 stripBytes d.strip)
    ++ listBytes (fun h => [byteOf h.val 0]) u.order
    ++ listBytes (fun e => bytesOf 2 e.stripId ++ [e.stampId, e.outcome.code]) u.log ++ [boolByte u.overrun]
    ++ writeResultBytes u.lastWrite ++ u.records.list.flatMap (optionBytes 40 stripRecordBytes)
    ++ s.pageBytes ++ beBytes 2 u.quota ++ beBytes 2 u.reserve ++ beBytes 2 u.tileCap ++ beBytes 2 u.stripCap
    ++ beBytes 1 u.gap ++ beBytes 2 u.drops

/-- LIST_STRIPS (R160, R153). -/
def execListStrips (p : SerialPort) (s : State) : Host.Outcome State Fault Refusal :=
  .next (s.command p 0x4A fun s => ⟨s.onPse fun u => { u with log := [], overrun := false }, .ok, s.stripItems⟩)

/-- READ_STRIP_DATA (R160). -/
def execReadStripData (p : SerialPort) (record : Byte) (offset : Word) (count : Half) (s : State) :
    Host.Outcome State Fault Refusal :=
  .next (s.command p 0x4B fun s =>
    match indexOf 32 record with
    | none => s.refuse .range
    | some k =>
      match s.pse.records.get k with
      | none => if count = 0 then s.refuse .range else s.refuse .unknown
      | some r =>
        if count = 0 ∨ r.data.length < offset.toNat + count.toNat then s.refuse .range
        else if r.state = .assembling then s.refuse .notNow
        else ⟨s, .ok, (r.data.drop offset.toNat).take count.toNat⟩)

/-- FREE_STRIP (R160). -/
def execFreeStrip (p : SerialPort) (record : Byte) (s : State) : Host.Outcome State Fault Refusal :=
  .next (s.command p 0x4C fun s =>
    match indexOf 32 record with
    | none => s.refuse .range
    | some k =>
      match s.pse.records.get k with
      | none => s.refuse .unknown
      | some _ => ⟨s.onPse fun u => { u with records := u.records.set k none }, .ok, []⟩)

/-- A descriptor or a record is in use (R146). -/
def PacketStore.inUse (u : PacketStore) : Bool :=
  u.descriptors.list.any (fun d => d.strip.isSome) || u.records.list.any Option.isSome

/-- The five settings are in range (R146). -/
def PoolParams.good (q : PoolParams) : Bool := q.stripQuota.toNat ≤ 8192 && q.tileReserve.toNat ≤ 2048 && q.gap != 0

/-- SET_POOL_QUOTAS (R146, R145). -/
def execSetPoolQuotas (p : SerialPort) (q : PoolParams) (s : State) : Host.Outcome State Fault Refusal :=
  .next (s.command p 0x4D fun s =>
    if s.pse.inUse then s.refuse .notNow
    else if !(PoolParams.good q) then s.refuse .range
    else
      ⟨s.notePool (s.onPse fun u => { u with
        quota := q.stripQuota.toNat, reserve := q.tileReserve.toNat, tileCap := q.tileCap.toNat
        stripCap := q.stripCap.toNat, gap := q.gap.toNat }), .ok, []⟩)

end Sys2Proof.Machine
end

