-- ==== Sys2Proof/Machine/TileCommands.lean ====
section
/-! DEFINITION. The meanings of the panel port's tile and event commands (R163, R164, R167 to R170). -/

namespace Sys2Proof.Machine

/-- The destination, screen, index, flag and length of a post are in range (R163 check 2, R175). -/
def goodPost (dest screen : Byte) (index : Half) (repaint : Byte) (length : Half) : Bool :=
  (inRange 1 48 dest.toNat || dest == 0xFF) && screen.toNat ≤ 15 && index.toNat ≤ 1023 && (boolOf repaint).isSome
    && inRange 1 1024 length.toNat

/-- The outcome of the parameter checks of Post Tile (R163). -/
def State.checkPost (s : State) (dest screen : Byte) (index : Half) (repaint : Byte) (length : Half) : Status :=
  if !s.isConsole then .notNow
  else if !goodPost dest screen index repaint length then .range
  else if s.freePages < pagesFor length.toNat then .full
  else if (s.teu.findWaiting dest screen index).isNone && Config.tileQueueLimit ≤ s.teu.out.length then .full
  else .ok

/-- A post goes ahead, or its outcome is recorded (R163). -/
def State.beginPost (s : State) (dest screen : Byte) (index : Half) (repaint : Byte) (length : Half) : State :=
  let o := s.checkPost dest screen index repaint length
  let x : Posting := ⟨dest, screen, index, repaint == 1, length.toNat, [], (s.teu.findWaiting dest screen index).isSome⟩
  if o = .ok then (s.onTeu fun u => { u with posting := some x }).refreshOffers
  else s.onTeu fun u => { u with posting := none, lastPost := some ⟨o, 0, dest, screen, index⟩ }

/-- POST_TILE (R163): its parameters. -/
def execPostTile (p : SerialPort) (dest screen : Byte) (index : Half) (repaint : Byte) (length : Half) (s : State) :
    Host.Outcome State Fault Refusal :=
  .next (match s.arrival p 0x4E with
    | .ignored => s
    | .denied => s.stream p 0x4E true
    | .taken => s.notePool ((s.stream p 0x4E false).beginPost dest screen index repaint length))

/-- A data byte of a post in progress (R163). -/
def State.postByte (s : State) (x : Posting) (b : Byte) : State :=
  let got := x.got ++ [b]
  if got.length < x.length then s.onTeu fun u => { u with posting := some { x with got := got } }
  else (s.finishPost x got).refreshOffers

/-- POST_TILE_DATA_BYTE (R163, R164). -/
def execPostTileDataByte (p : SerialPort) (byte : Byte) (s : State) : Host.Outcome State Fault Refusal :=
  .next (match s.teu.posting with
    | some x => if s.dataFor p 0x4E then s.notePool (s.postByte x byte) else s
    | none => s)

/-- An incoming tile as Fetch Tile returns it (R167). -/
def tileBytes (e : InTile) : List Byte :=
  [e.screen] ++ bytesOf 2 e.index ++ [boolByte e.repaint] ++ bytesOf 2 e.seq ++ beBytes 2 e.data.length ++ e.data

/-- FETCH_TILE (R167). -/
def execFetchTile (p : SerialPort) (s : State) : Host.Outcome State Fault Refusal :=
  .next (s.command p 0x4F fun s =>
    if s.teu.incoming.any InTile.fetched then s.refuse .busy
    else match s.teu.incoming with
      | [] => s.refuse .unknown
      | e :: rest => ⟨s.onTeu fun u => { u with incoming := { e with fetched := true } :: rest }, .ok, tileBytes e⟩)

/-- RELEASE_TILE (R167). -/
def execReleaseTile (p : SerialPort) (s : State) : Host.Outcome State Fault Refusal :=
  .next (s.command p 0x50 fun s =>
    if s.teu.incoming.any InTile.fetched then
      ⟨s.onTeu fun u => { u with incoming := u.incoming.filter fun e => !e.fetched }, .ok, []⟩
    else s.refuse .unknown)

/-- The repaint table entry of a position: the node's own mask at its own address (R168). -/
def State.repaintEntry (s : State) (i : Fin 48) : Option RepaintEntry :=
  if indexAddress i = s.ctn.config.address then some ⟨s.teu.repaint, Config.ownRepaintCycle s.free⟩
  else s.teu.repaints.get i

/-- The items of Read Repaints (R168). -/
def State.repaintItems (s : State) : List Byte :=
  (List.finRange 48).flatMap (fun i => optionBytes 6 (fun e => bytesOf 2 e.mask ++ bytesOf 4 e.cycle) (s.repaintEntry i))
    ++ postResultBytes s.teu.lastPost

/-- READ_REPAINTS (R168). -/
def execReadRepaints (p : SerialPort) (s : State) : Host.Outcome State Fault Refusal :=
  .next (s.command p 0x51 fun s => ⟨{ s with free := s.free + 1 }, .ok, s.repaintItems⟩)

/-- POST_EVENT (R169). -/
def execPostEvent (p : SerialPort) (kind code : Byte) (x y : Half) (s : State) : Host.Outcome State Fault Refusal :=
  .next (s.command p 0x52 fun s =>
    if !inRange 1 3 kind.toNat then s.refuse .range
    else if Config.panelEventLimit ≤ s.teu.events.length then s.refuse .full
    else ⟨s.onTeu fun u => { u with events := u.events ++ [⟨kind, code, x, y⟩] }, .ok, []⟩)

/-- READ_CONSOLE_EVENTS (R170). -/
def execReadConsoleEvents (p : SerialPort) (s : State) : Host.Outcome State Fault Refusal :=
  .next (s.command p 0x53 fun s =>
    ⟨s.onTeu fun u => { u with console := [], lost := false }, .ok,
      [byteOf s.teu.console.length 0, boolByte s.teu.lost] ++ s.teu.console.flatMap consoleEventBytes⟩)

end Sys2Proof.Machine
end

