-- ==== Sys2Proof/Machine/Dispatch.lean ====
section
/-! DEFINITION. One arm per command: its meaning. -/

namespace Sys2Proof.Machine

def exec (i : Instr) (s : State) : Host.Outcome State Fault Refusal :=
  match i with
  | .lightAppears p => Sys2Proof.Machine.execLightAppears p s
  | .lightLost p => Sys2Proof.Machine.execLightLost p s
  | .validIdleReceived p => Sys2Proof.Machine.execValidIdleReceived p s
  | .codeError p => Sys2Proof.Machine.execCodeError p s
  | .codeLock p => Sys2Proof.Machine.execCodeLock p s
  | .lockErrorLimit p => Sys2Proof.Machine.execLockErrorLimit p s
  | .lockErrorRestart => Sys2Proof.Machine.execLockErrorRestart s
  | .frameHeaderReceived p arrival frame => Sys2Proof.Machine.execFrameHeaderReceived p arrival frame s
  | .badFrameClose p received closing => Sys2Proof.Machine.execBadFrameClose p received closing s
  | .dataCopy p arrival frame => Sys2Proof.Machine.execDataCopy p arrival frame s
  | .returnedCopy p arrival frame => Sys2Proof.Machine.execReturnedCopy p arrival frame s
  | .probeAtFollower p frame => Sys2Proof.Machine.execProbeAtFollower p frame s
  | .probeReturn p arrival frame => Sys2Proof.Machine.execProbeReturn p arrival frame s
  | .probeTimeout => Sys2Proof.Machine.execProbeTimeout s
  | .probeRepeatTimer => Sys2Proof.Machine.execProbeRepeatTimer s
  | .tripFrame p frame => Sys2Proof.Machine.execTripFrame p frame s
  | .fragment p frame => Sys2Proof.Machine.execFragment p frame s
  | .tile p frame => Sys2Proof.Machine.execTile p frame s
  | .undelivered p frame => Sys2Proof.Machine.execUndelivered p frame s
  | .transmissionEnd p => Sys2Proof.Machine.execTransmissionEnd p s
  | .lineNodeBoundary => Sys2Proof.Machine.execLineNodeBoundary s
  | .localBoundary => Sys2Proof.Machine.execLocalBoundary s
  | .timingClose => Sys2Proof.Machine.execTimingClose s
  | .acquisitionWaitExpiry => Sys2Proof.Machine.execAcquisitionWaitExpiry s
  | .returnTimeout copy => Sys2Proof.Machine.execReturnTimeout copy s
  | .asyncWindowOpen => Sys2Proof.Machine.execAsyncWindowOpen s
  | .asyncWindowClose => Sys2Proof.Machine.execAsyncWindowClose s
  | .pulseStart line => Sys2Proof.Machine.execPulseStart line s
  | .pulseEnd line => Sys2Proof.Machine.execPulseEnd line s
  | .tripInputChange input active => Sys2Proof.Machine.execTripInputChange input active s
  | .filterTimeElapsed input => Sys2Proof.Machine.execFilterTimeElapsed input s
  | .powerOnReset => Sys2Proof.Machine.execPowerOnReset s
  | .resetPin => Sys2Proof.Machine.execResetPin s
  | .resetEnd => Sys2Proof.Machine.execResetEnd s
  | .unknownCommand p code => Sys2Proof.Machine.execUnknownCommand p code s
  | .transactionEnd p midByte => Sys2Proof.Machine.execTransactionEnd p midByte s
  | .readStatus p => Sys2Proof.Machine.execReadStatus p s
  | .readEvents p => Sys2Proof.Machine.execReadEvents p s
  | .setEventMask p mask => Sys2Proof.Machine.execSetEventMask p mask s
  | .raiseTrip p code => Sys2Proof.Machine.execRaiseTrip p code s
  | .dropTrip p code => Sys2Proof.Machine.execDropTrip p code s
  | .resetTrip p mask => Sys2Proof.Machine.execResetTrip p mask s
  | .readTrips p => Sys2Proof.Machine.execReadTrips p s
  | .readRing p => Sys2Proof.Machine.execReadRing p s
  | .readSection p address => Sys2Proof.Machine.execReadSection p address s
  | .softReset p => Sys2Proof.Machine.execSoftReset p s
  | .readResetCause p => Sys2Proof.Machine.execReadResetCause p s
  | .configureNode p c => Sys2Proof.Machine.execConfigureNode p c s
  | .join p => Sys2Proof.Machine.execJoin p s
  | .start p => Sys2Proof.Machine.execStart p s
  | .stop p => Sys2Proof.Machine.execStop p s
  | .ringRestart p => Sys2Proof.Machine.execRingRestart p s
  | .setLineSpeed p speed => Sys2Proof.Machine.execSetLineSpeed p speed s
  | .setLineLimits p l => Sys2Proof.Machine.execSetLineLimits p l s
  | .writeAxisContext p axis c => Sys2Proof.Machine.execWriteAxisContext p axis c s
  | .commitContext p mask => Sys2Proof.Machine.execCommitContext p mask s
  | .withdrawCommit p mask => Sys2Proof.Machine.execWithdrawCommit p mask s
  | .rePhase p mask => Sys2Proof.Machine.execRePhase p mask s
  | .clearTrim p mask => Sys2Proof.Machine.execClearTrim p mask s
  | .readAxis p axis => Sys2Proof.Machine.execReadAxis p axis s
  | .readSetpoints p => Sys2Proof.Machine.execReadSetpoints p s
  | .publishWords p words => Sys2Proof.Machine.execPublishWords p words s
  | .writeTripEntry p e => Sys2Proof.Machine.execWriteTripEntry p e s
  | .lockTripTable p => Sys2Proof.Machine.execLockTripTable p s
  | .setTimingLimits p l => Sys2Proof.Machine.execSetTimingLimits p l s
  | .writeTriggerEntry p form t => Sys2Proof.Machine.execWriteTriggerEntry p form t s
  | .writeTriggerLine p line width => Sys2Proof.Machine.execWriteTriggerLine p line width s
  | .writeTriggerLifetime p lifetime => Sys2Proof.Machine.execWriteTriggerLifetime p lifetime s
  | .readStamps p => Sys2Proof.Machine.execReadStamps p s
  | .postMark p axis stampId error quality => Sys2Proof.Machine.execPostMark p axis stampId error quality s
  | .setMarkLimits p age speed => Sys2Proof.Machine.execSetMarkLimits p age speed s
  | .openStrip p stampId length priority => Sys2Proof.Machine.execOpenStrip p stampId length priority s
  | .writeStripData p handle offset => Sys2Proof.Machine.execWriteStripData p handle offset s
  | .writeStripDataByte p byte => Sys2Proof.Machine.execWriteStripDataByte p byte s
  | .closeStrip p handle => Sys2Proof.Machine.execCloseStrip p handle s
  | .holdStrip p handle => Sys2Proof.Machine.execHoldStrip p handle s
  | .releaseStrip p handle => Sys2Proof.Machine.execReleaseStrip p handle s
  | .cancelStrip p handle => Sys2Proof.Machine.execCancelStrip p handle s
  | .listStrips p => Sys2Proof.Machine.execListStrips p s
  | .readStripData p record offset count => Sys2Proof.Machine.execReadStripData p record offset count s
  | .freeStrip p record => Sys2Proof.Machine.execFreeStrip p record s
  | .setPoolQuotas p q => Sys2Proof.Machine.execSetPoolQuotas p q s
  | .postTile p dest screen index repaint length => Sys2Proof.Machine.execPostTile p dest screen index repaint length s
  | .postTileDataByte p byte => Sys2Proof.Machine.execPostTileDataByte p byte s
  | .fetchTile p => Sys2Proof.Machine.execFetchTile p s
  | .releaseTile p => Sys2Proof.Machine.execReleaseTile p s
  | .readRepaints p => Sys2Proof.Machine.execReadRepaints p s
  | .postEvent p kind code x y => Sys2Proof.Machine.execPostEvent p kind code x y s
  | .readConsoleEvents p => Sys2Proof.Machine.execReadConsoleEvents p s
  | .selectFalls p => Sys2Proof.Machine.execSelectFalls p s
  | .commandByteArrival p code => Sys2Proof.Machine.execCommandByteArrival p code s

end Sys2Proof.Machine
end

