-- ==== Sys2Proof/Safety.lean ====
section
/-! DEFINITION. The terms in which the statements speak: when a command arrives, what an answer leaves, which frames are taken up,
and the laws a state of the CN48 keeps. -/

namespace Sys2Proof.Machine

/-! ## Commands on the serial ports -/

/-- The command with this code arrives on port `p` and is permitted there (R172, R176). -/
def State.Arrives (s : State) (p : SerialPort) (code : Byte) : Prop :=
  s.hold = none ∧ permitted p code = true ∧ (s.serial p).tr.ready code = true

/-- The port and the code of a command on a serial port; `none` for every other row, and for the two values of the form byte that
spell no `writeTriggerEntry`. -/
def portCode : Instr → Option (SerialPort × Byte)
  | .readStatus p => some (p, 0x01)
  | .readEvents p => some (p, 0x02)
  | .setEventMask p _ => some (p, 0x03)
  | .raiseTrip p _ => some (p, 0x04)
  | .dropTrip p _ => some (p, 0x05)
  | .resetTrip p _ => some (p, 0x06)
  | .readTrips p => some (p, 0x07)
  | .readRing p => some (p, 0x08)
  | .readSection p _ => some (p, 0x09)
  | .softReset p => some (p, 0x0A)
  | .readResetCause p => some (p, 0x0B)
  | .configureNode p _ => some (p, 0x20)
  | .join p => some (p, 0x21)
  | .start p => some (p, 0x22)
  | .stop p => some (p, 0x23)
  | .ringRestart p => some (p, 0x24)
  | .setLineSpeed p _ => some (p, 0x25)
  | .setLineLimits p _ => some (p, 0x26)
  | .writeAxisContext p _ _ => some (p, 0x27)
  | .commitContext p _ => some (p, 0x28)
  | .withdrawCommit p _ => some (p, 0x29)
  | .rePhase p _ => some (p, 0x2A)
  | .clearTrim p _ => some (p, 0x2B)
  | .readAxis p _ => some (p, 0x2C)
  | .readSetpoints p => some (p, 0x2D)
  | .publishWords p _ => some (p, 0x2E)
  | .writeTripEntry p _ => some (p, 0x2F)
  | .lockTripTable p => some (p, 0x30)
  | .setTimingLimits p _ => some (p, 0x31)
  | .writeTriggerEntry p form _ => if form = 1 ∨ form = 2 then none else some (p, 0x40)
  | .writeTriggerLine p _ _ => some (p, 0x40)
  | .writeTriggerLifetime p _ => some (p, 0x40)
  | .readStamps p => some (p, 0x41)
  | .postMark p _ _ _ _ => some (p, 0x42)
  | .setMarkLimits p _ _ => some (p, 0x43)
  | .openStrip p _ _ _ => some (p, 0x44)
  | .writeStripData p _ _ => some (p, 0x45)
  | .closeStrip p _ => some (p, 0x46)
  | .holdStrip p _ => some (p, 0x47)
  | .releaseStrip p _ => some (p, 0x48)
  | .cancelStrip p _ => some (p, 0x49)
  | .listStrips p => some (p, 0x4A)
  | .readStripData p _ _ _ => some (p, 0x4B)
  | .freeStrip p _ => some (p, 0x4C)
  | .setPoolQuotas p _ => some (p, 0x4D)
  | .postTile p _ _ _ _ _ => some (p, 0x4E)
  | .fetchTile p => some (p, 0x4F)
  | .releaseTile p => some (p, 0x50)
  | .readRepaints p => some (p, 0x51)
  | .postEvent p _ _ _ _ => some (p, 0x52)
  | .readConsoleEvents p => some (p, 0x53)
  | .lightAppears _ | .lightLost _ | .validIdleReceived _ | .codeError _ | .codeLock _ | .lockErrorLimit _
  | .lockErrorRestart | .frameHeaderReceived _ _ _ | .badFrameClose _ _ _ | .dataCopy _ _ _ | .returnedCopy _ _ _
  | .probeAtFollower _ _ | .probeReturn _ _ _ | .probeTimeout | .probeRepeatTimer | .tripFrame _ _ | .fragment _ _
  | .tile _ _ | .undelivered _ _ | .transmissionEnd _ | .lineNodeBoundary | .localBoundary | .timingClose
  | .acquisitionWaitExpiry | .returnTimeout _ | .asyncWindowOpen | .asyncWindowClose | .pulseStart _ | .pulseEnd _
  | .tripInputChange _ _ | .filterTimeElapsed _ | .powerOnReset | .resetPin | .resetEnd | .unknownCommand _ _
  | .transactionEnd _ _ | .writeStripDataByte _ _ | .postTileDataByte _ _ | .selectFalls _ | .commandByteArrival _ _ => none

/-- The cycle timer and node state block is as it was, but for the departures recorded of the line node's own frames: a TRIP frame
presented at the same instant may go before one of them (R12, R29, R37). -/
def Ctn.SameButDepartures (c d : Ctn) : Prop :=
  d = { c with line := { c.line with flight := d.line.flight, returnA := d.line.returnA, returnB := d.line.returnB } }

/-! ## Frames at a port -/

/-- An own FRAGMENT or TILE frame in transmission has started at the very tick `now`. -/
def State.StartsAt (s : State) (now : Word) : Prop :=
  ∃ p x, (s.fibre p).tx = some x ∧ x.presented = some now ∧ x.out.cls = 4

/-- `s`, but that an own FRAGMENT or TILE frame which has started at the tick of `t`, and which `t` does not send, has given way to a
more urgent frame presented at that tick: its start is taken back (R12, R14, R155). -/
def State.recalledIn (s t : State) : State :=
  [FibrePort.a, .b].foldl (fun u p =>
    if ((s.fibre p).tx.any fun x => x.presented == some t.tick && x.out.cls == 4) && (t.fibre p).tx != (s.fibre p).tx
    then u.giveWay p else u) s

/-- A frame of this origin is in transmission or waits at the port. -/
def Fibre.Holds (x : Fibre) (o : Origin) (f : Frame) : Prop :=
  (∃ y, x.tx = some y ∧ y.out.origin = o ∧ y.out.frame = f) ∨ ∃ y ∈ x.waiting, y.origin = o ∧ y.frame = f

/-- The transit frame `o`, presented at `u` for departure at `d`, leaves `t`. It goes by the port chosen for it, or turned back by the
other when that port is down, and is discarded when it has been turned back twice already (R10, R9). There it leaves at once from a free
transmitter, goes before a less urgent frame that began to leave at this very tick (log entry 75), waits within the FIFO, or is discarded
(R12, R13). -/
def State.SendsOn (u t : State) (o : OutFrame) (d : Word) : Prop :=
  let up : Prop := (u.fibre o.chosen).link = .locked
  let q := if up then o.chosen else o.chosen.other
  let x := u.fibre q
  let g : Frame := { o.frame with flags := o.frame.flags ||| (if o.frame.wrapped then 0x40 else 0x80) }
  let z : OutFrame := if up then o else { o with frame := g, changed := true, crc := none }
  let y : Transmission := ⟨z, d, 0, some u.tick⟩
  let dropped : Prop := t = u.onFpf fun f => { f with drops := min 65535 (f.drops + 1) }
  if ¬ up ∧ o.frame.wrapped ∧ o.frame.rewrapped then dropped
  else if x.link = .locked ∧ x.tx = none ∧ x.waiting = [] then t = u.onFibre q fun f => { f with tx := some y }
  else if x.link = .locked ∧ x.tx.any (fun w => w.presented == some u.tick && decide (z.cls < w.out.cls)) then
    (t.fibre q).tx = some y ∧ t = { u.recalledIn t with fpf := { u.fpf with a := t.fpf.a, b := t.fpf.b } }
  else if x.fifoUsed + (o.frame.length.toNat + 8) ≤ 8192 then
    t = u.onFibre q fun f => { f with waiting := f.waiting ++ [{ z with due := d }] }
  else dropped

/-- What an entry into PASSIVE at `now` makes of the port `x`, as to its link and the frames it sends and holds: the own frames that wait
are gone, and so is an own TRIP frame presented at `now` that has begun to leave at that very tick; the first transit frame of the most
urgent class behind it then takes the transmitter (R28, R123, R12; log entry 113). -/
def Fibre.OwnDiscarded (x y : Fibre) (now : Word) : Prop :=
  let left := x.waiting.filter fun o => o.origin == .transit
  let built (w : Transmission) : Prop := w.out.origin = .ownTrip ∧ w.start = now ∧ (w.presented = some now ∨ w.out.due = now)
  y.link = x.link
  ∧ ((∀ w, x.tx = some w → ¬ built w) → y.tx = x.tx ∧ y.waiting = left)
  ∧ (∀ w, x.tx = some w → built w →
      ((x.link ≠ .locked ∨ left = []) → y.tx = none ∧ y.waiting = left)
      ∧ (x.link = .locked → left ≠ [] → ∃ i o, left[i]? = some o ∧ (∀ z ∈ left, o.cls ≤ z.cls)
          ∧ (∀ j z, j < i → left[j]? = some z → o.cls < z.cls)
          ∧ y.tx = some ⟨o, if (now - o.due).toInt ≤ 0 then o.due else now, o.frame.length.toNat + 8, none⟩
          ∧ y.waiting = left.eraseIdx i))

/-! ## Laws -/

/-- The route table is the one of the plan and break index held, and a node in PASSIVE holds no break index (R15, R28). A ring
restart clears the break index and leaves the table in use (R16). -/
def State.RoutesCurrent (s : State) : Prop :=
  (s.ctn.breakIx ≠ none → s.fpf.routes = routesOf s.ctn.plan s.ctn.breakIx s.ctn.config.address)
  ∧ (s.ctn.state = .passive → s.ctn.breakIx = none)

/-- No published record is VALID out of RUN (R101); while the effective class is 1 every valid published record carries TORQUE_OFF
and W = 0, and the back set holds W = 0 throughout (R99); a record of the back set that goes with no step or with an engagement has
W = 0 (R94, R87). -/
def State.TorqueLaw (s : State) : Prop :=
  (s.ctn.state ≠ .run → ∀ i, (s.axe.published.get i).valid = false)
  ∧ (s.tru.effective = 1 → ∀ i, (s.axe.published.get i).valid = true →
      (s.axe.published.get i).torqueOff = true ∧ (s.axe.published.get i).w = 0)
  ∧ (∀ back, s.axe.back = some back →
      (s.tru.effective = 1 → ∀ i, (back.get i).w = 0)
      ∧ ∀ i, ((s.axe.axes.get i).prepared = none ∨ (s.axe.axes.get i).prepared.any (fun x => x.kind == .engage) = true) →
        (back.get i).w = 0)

/-- Of every axis D is at least 1, 0 ≤ R < D, |T| ≤ L and |T*| ≤ L of context A, in force and in the prepared step (R91, R92). -/
def State.AxisLaw (s : State) : Prop :=
  ∀ i, 1 ≤ (s.axe.axes.get i).ctxA.den ∧ 1 ≤ (s.axe.axes.get i).ctxB.den
    ∧ (s.axe.axes.get i).r < (s.axe.axes.get i).ctxA.den
    ∧ (s.axe.axes.get i).t.natAbs ≤ (s.axe.axes.get i).ctxA.limit
    ∧ (s.axe.axes.get i).tStar.natAbs ≤ (s.axe.axes.get i).ctxA.limit
    ∧ ∀ x, (s.axe.axes.get i).prepared = some x →
        x.r < (s.axe.axes.get i).ctxA.den ∧ x.t.natAbs ≤ (s.axe.axes.get i).ctxA.limit

/-- The trip unit's laws: the sources handed over are the sources as they stand (R105); a LATCHED entry is latched whenever its
source is active, a FOLLOWING entry follows it (R109); no source appears in two entries (R108), whose classes are 1 to 3; the
effective class is the most severe class among the latched entries and the remote records of other addresses that meet the membership
mask (R119, section 6.4). -/
def State.TripLaw (s : State) : Prop :=
  (∀ i, s.tru.active.get i = s.sourceActive i)
  ∧ (∀ k e, s.tru.entries.get k = some e →
      (1 ≤ e.cls ∧ e.cls ≤ 3)
      ∧ (e.mode = .latched → s.sourceActive e.source = true → e.latch = true)
      ∧ (e.mode = .following → e.latch = s.sourceActive e.source))
  ∧ (∀ j k e f, s.tru.entries.get j = some e → s.tru.entries.get k = some f → e.source = f.source → j = k)
  ∧ s.tru.effective = s.tru.classIn s.ctn.config.address s.ctn.config.membership

/-- The sizes that chapters 1 to 11 give the node's lists and counts, and PASSIVE throughout a reset (R1, R9, R19, R31, R43, R45, R65, R103,
R124, R130, R153, R156, R158, R163, R166, R169, R170, R172, R181). A post that would need a new entry finds room for it. -/
def State.SizeLaw (s : State) : Prop :=
  (s.hold ≠ none → s.ctn.state = .passive)
  ∧ s.ctn.plan.length ≤ 48 ∧ s.ctn.fol.holdover ≤ 255 ∧ s.ctn.fol.align ≤ 8 ∧ s.reads ≤ 255
  ∧ (∀ p, (s.fibre p).errors ≤ 255 ∧ (s.fibre p).published ≤ 255 ∧ (s.fibre p).idles ≤ 64
      ∧ (s.fibre p).lockErrors ≤ 8 ∧ ((s.fibre p).link = .locked → (s.fibre p).lockErrors ≤ 7))
  ∧ s.fpf.drops ≤ 65535 ∧ s.pse.drops ≤ 65535 ∧ s.pse.tileCap ≤ 65535 ∧ s.pse.stripCap ≤ 65535
  ∧ s.lu.window.length ≤ 3 ∧ (s.lu.window.map Sample.boundary).Nodup
  ∧ s.tgu.stamps.length ≤ 32 ∧ (∀ k, (s.tgu.lines.get k).schedule.length ≤ 32)
  ∧ s.pse.log.length ≤ 16 ∧ s.teu.out.length ≤ 64 ∧ s.teu.incoming.length ≤ 64 ∧ s.teu.events.length ≤ 16
  ∧ s.teu.console.length ≤ 64
  ∧ (∀ x, s.teu.carried = some x → x.2.length ≤ 2)
  ∧ (∀ p r w, (s.fibre p).rx = some r → r.write = some w → w.carried.length ≤ 2)
  ∧ (∀ x, s.teu.posting = some x → s.teu.out.length < 64
      ∨ (x.matched = true ∧ ∃ e ∈ s.teu.out, e.started = 0 ∧ (e.dest, e.screen, e.index) = (x.dest, x.screen, x.index)))
  ∧ s.drive.tr.framing ≤ 255 ∧ s.panel.tr.framing ≤ 255

/-- What the blocks keep of themselves: the send order names each descriptor once, and only one whose strip is QUEUED or SENDING
(R147); no two WAITING tile entries share a key (R163), and no two UNFETCHED ones a screen and tile index (R166); at most the
first incoming tile is FETCHED (R167); a post is in progress only in the panel port's data phase of Post Tile
(R163); a timing close is made once both copies of the cycle have come (R42). -/
def State.StoreLaw (s : State) : Prop :=
  s.pse.order.Nodup
  ∧ (∀ h ∈ s.pse.order, ∃ x, s.strip h = some x ∧ (x.state = .queued ∨ x.state = .sending))
  ∧ (∀ (j k : Nat) (e f : OutTile), s.teu.out[j]? = some e → s.teu.out[k]? = some f → e.started = 0 → f.started = 0 →
      (e.dest, e.screen, e.index) = (f.dest, f.screen, f.index) → j = k)
  ∧ (∀ (j k : Nat) (e f : InTile), s.teu.incoming[j]? = some e → s.teu.incoming[k]? = some f → e.fetched = false →
      f.fetched = false → (e.screen, e.index) = (f.screen, f.index) → j = k)
  ∧ (∀ e ∈ s.teu.incoming.drop 1, e.fetched = false)
  ∧ (s.teu.posting ≠ none → s.panel.tr.state = .data ∧ s.panel.tr.command = some 0x4E ∧ s.panel.tr.denied = false)
  ∧ (s.ctn.boundary ≠ none → s.ctn.fol.closed = none → s.ctn.fol.thisA = none ∨ s.ctn.fol.thisB = none)

/-! ## Strips that end -/

/-- A fragment of strip `id` of descriptor `h` is in transmission. -/
def State.Transmits (s : State) (h : Fin 16) (id : Half) : Prop :=
  ∃ q y last first, (s.fibre q).tx = some y ∧ y.out.origin = .ownFragment h id last first

/-- Descriptor `h` has been freed of the strip `x`, which is logged with the outcome `o` (R152, R153). STRIP_DONE is bit 7. -/
def State.Ended (t : State) (h : Fin 16) (x : Strip) (o : Completion) : Prop :=
  t.pse.descriptors.get h = ⟨none, some ⟨x.id, x.stamp.id, o == .lost⟩⟩ ∧ h ∉ t.pse.order
  ∧ (⟨x.id, x.stamp.id, o⟩ : LogEntry) ∈ t.pse.log ∧ t.panel.pending.getLsbD 7 = true

/-- The strip `x` of descriptor `h` is ended as lost between `s` and `t`: at the close of its fragment in transmission, or at once
(R152). -/
def State.Loses (s t : State) (h : Fin 16) (x : Strip) : Prop :=
  (s.Transmits h x.id → t.pse.descriptors.get h = { s.pse.descriptors.get h with strip := some { x with lostDue := true } }
    ∧ (h ∈ t.pse.order ↔ h ∈ s.pse.order))
  ∧ (¬ s.Transmits h x.id → t.Ended h x .lost)

/-- What a ring restart does to the packet store between `s` and `t` (R161): the strips SENDING are lost, the others stay, and the records
ASSEMBLING become INCOMPLETE. STRIP_ARRIVED is bit 8. -/
def State.StoreRestarts (s t : State) : Prop :=
  (∀ h x, s.strip h = some x → x.state = .sending → s.Loses t h x)
  ∧ (∀ h, (∀ x, s.strip h = some x → x.state ≠ .sending) → t.pse.descriptors.get h = s.pse.descriptors.get h
      ∧ (h ∈ t.pse.order ↔ h ∈ s.pse.order))
  ∧ (∀ k, t.pse.records.get k = (s.pse.records.get k).map fun r =>
      { r with state := if r.state = .assembling then .incomplete else r.state })
  ∧ ((∃ k r, s.pse.records.get k = some r ∧ r.state = .assembling) → t.panel.pending.getLsbD 8 = true)
  ∧ t.pse.grant = none ∧ t.pse.computed = none ∧ t.pse.offer = none

/-- What becoming the console does to the descriptors between `s` and `t` (R150): a strip of which nothing was sent goes to a free
record, in descriptor order as long as one is free, and is lost after that; one of which something was sent is lost. An OPEN one, and one
with a pending CANCEL, stays. STRIP_ARRIVED is bit 8. -/
def State.StripsStayHere (s t : State) : Prop :=
  let deals (h : Fin 16) (x : Strip) : Prop := s.strip h = some x ∧ x.state ≠ .opened ∧ x.pending ≠ .cancel
  let moves (h : Fin 16) (x : Strip) : Prop := t.Ended h x .sent ∧ t.panel.pending.getLsbD 8 = true
    ∧ ∃ k r, s.pse.records.get k = none ∧ t.pse.records.get k = some r
      ∧ r.source = t.ctn.config.address ∧ r.stripId = x.id ∧ r.stamp = x.stamp ∧ r.declared = x.data.length ∧ r.data = x.data
      ∧ r.state = .complete
  (∀ h, (∀ x, ¬ deals h x) → t.pse.descriptors.get h = s.pse.descriptors.get h)
  ∧ (∀ h x, deals h x → x.sent ≠ 0 → s.Loses t h x)
  ∧ (∀ h x, deals h x → x.sent = 0 →
      moves h x ∨ (t.Ended h x .lost ∧ (∀ k, t.pse.records.get k ≠ none)
        ∧ ∀ j y, h < j → deals j y → y.sent = 0 → t.Ended j y .lost))
  ∧ (∀ k r, s.pse.records.get k = some r → t.pse.records.get k = some r)

/-! ## Arrivals at the incoming tile queue -/

/-- What an arriving tile `x` does to the incoming queue, the repaint mask and the panel's pending set, between `s` and `t` (R166 steps
2 to 5, R168): it takes the place of the UNFETCHED entry of its screen and tile index, joins the queue, or is dropped, for want of a
place or of pages. TILE_ARRIVED is bit 9 of the pending set, REPAINT bit 11. -/
def State.TileArrives (s t : State) (x : InTile) : Prop :=
  let pages (n : Nat) : Nat := (n + 255) / 256
  let same (e : InTile) : Prop := e.fetched = false ∧ e.screen = x.screen ∧ e.index = x.index
  let bit : Half := 1#16 <<< x.screen.toNat
  let stored (q : List InTile) (arrived : Prop) : Prop := t.teu.incoming = q
    ∧ t.teu.repaint = (if x.repaint then s.teu.repaint &&& ~~~bit else s.teu.repaint)
    ∧ t.panel.pending.getLsbD 11 = s.panel.pending.getLsbD 11
    ∧ (t.panel.pending.getLsbD 9 = true ↔ s.panel.pending.getLsbD 9 = true ∨ arrived)
  let dropped : Prop := t.teu.incoming = s.teu.incoming ∧ t.teu.repaint = s.teu.repaint ||| bit
    ∧ t.panel.pending.getLsbD 9 = s.panel.pending.getLsbD 9
    ∧ (t.panel.pending.getLsbD 11 = true ↔ s.panel.pending.getLsbD 11 = true ∨ (s.isConsole = true ∧ s.teu.repaint &&& bit = 0))
  (∀ k e, s.teu.incoming[k]? = some e → same e → (∀ j < k, ∀ y, s.teu.incoming[j]? = some y → ¬ same y) →
    (pages x.data.length ≤ s.freePages + pages e.data.length → stored (s.teu.incoming.set k x) False)
    ∧ (s.freePages + pages e.data.length < pages x.data.length → dropped))
  ∧ ((∀ e ∈ s.teu.incoming, ¬ same e) →
    (s.teu.incoming.length < 64 → pages x.data.length ≤ s.freePages →
      stored (s.teu.incoming ++ [x]) (∀ e ∈ s.teu.incoming, e.fetched = true))
    ∧ ((64 ≤ s.teu.incoming.length ∨ s.freePages < pages x.data.length) → dropped))

end Sys2Proof.Machine
end

