-- ==== Sys2Proof/Certificates/Slice0/Obligations.lean ====
section
/-! DEFINITION. The statements for the provers, in the order of the spec's chapters, and last the one on the work of a boundary as a
whole. A statement that names no premise on a field holds for every value of it. A command on a serial port `p` is `s.Arrives p code`:
the node is not held in reset, the code is permitted on the port, and the port stands where the command may arrive. -/

open Sys2Proof Sys2Proof.Machine

/-- The link table of R1 short of a change between down and LOCKED; a node that holds no boundary returns both lock error counts
to 0 every 500,000 ticks. -/
def Obligations.LinkEventsBelowTheirLimits : Prop :=
  ∀ (s : State) (p : FibrePort), s.hold = none →
    ((s.fibre p).link = .dark →
      exec (.lightAppears p) s = .next (s.onFibre p fun f => { f with light := true, link := .acquiring, idles := 0 }))
    ∧ ((s.fibre p).link = .acquiring →
      ((s.fibre p).idles + 1 < 64 →
        exec (.validIdleReceived p) s = .next (s.onFibre p fun f => { f with idles := f.idles + 1 }))
      ∧ exec (.codeError p) s = .next (s.onFibre p fun f => { f with idles := 0 })
      ∧ exec (.lightLost p) s = .next (s.onFibre p fun f => { f with light := false, link := .dark }))
    ∧ ((s.fibre p).link = .locked → (s.fibre p).lockErrors + 1 < 8 →
      exec (.codeError p) s = .next (s.onFibre p fun f =>
        { f with errors := min 255 (f.errors + 1), lockErrors := f.lockErrors + 1 }))
    ∧ (s.ctn.boundary = none →
      ∃ t, exec .lockErrorRestart s = .next t
        ∧ t = { s with
            tick := t.tick
            fpf := { s.fpf with a := { s.fpf.a with lockErrors := 0 }, b := { s.fpf.b with lockErrors := 0 } }
            ctn := { s.ctn with idleSince := s.ctn.idleSince + 500000 } })

/-- R1, R10, R11, R13, R19: entry into LOCKED, and a LOCKED port that goes down. That CODE_LOCK and LOCK_ERROR_LIMIT act at whatever count
the port stands is the model's choice, log entry 33; how many bytes of a frame cut short came is DEDUCED, log entry 41; that the frame in
reception is closed at this command is the model's choice, log entry 96.
The third part says where the frames go that wait at a port which goes down while the other port is LOCKED. `shut` closes short the
frame that was being received, `put` presents one frame to the other port's arbiter: a transit frame wrapped, within the FIFO, or dropped;
a frame of the node's own as it was built, wrapped when its builder chose the port that is down, an own TRIP frame beyond the 32nd not
sent (R114). What lies in the first list waits there, what lies in the second is dropped, and what is staged from a
frame in reception at the other port stays for its close (R53, R54). It leaves out a frame presented at this
very tick, which log entry 75 orders. The ticks are the model's, log entry 2, and that the transit frames come before the own ones is
the order of R11. -/
def Obligations.PortsEnterAndLeaveLocked : Prop :=
  (∀ (s : State) (p : FibrePort) (c : Instr), s.hold = none → (s.fibre p).link = .acquiring →
      (c = .codeLock p ∨ (c = .validIdleReceived p ∧ (s.fibre p).idles = 63)) →
      ∃ t, exec c s = .next t
        ∧ (t.fibre p).link = .locked ∧ (t.fibre p).idles = 64 ∧ (t.fibre p).lockErrors = 0
        ∧ (t.fibre p).errors = (s.fibre p).errors ∧ (t.fibre p).published = (s.fibre p).published
        ∧ (t.fibre p.other).link = (s.fibre p.other).link ∧ (t.fibre p.other).errors = (s.fibre p.other).errors
        ∧ t = { s with
            fpf := { s.fpf with a := t.fpf.a, b := t.fpf.b }
            ctn := { s.ctn with line := t.ctn.line }
            pse := t.pse
            teu := { s.teu with out := t.teu.out, broadcast := t.teu.broadcast, firstDue := t.teu.firstDue }
            drive := { s.drive with pending := s.drive.pending ||| 0x0008 } })
  ∧ (∀ (s : State) (p : FibrePort) (c : Instr) (ls : LinkState), s.hold = none → (s.fibre p).link = .locked →
      ((c = .lightLost p ∧ ls = .dark) ∨ (c = .lockErrorLimit p ∧ ls = .acquiring)
        ∨ (c = .codeError p ∧ (s.fibre p).lockErrors = 7 ∧ ls = .acquiring)) →
      ∃ t, exec c s = .next t
        ∧ (t.fibre p).link = ls ∧ (ls = .acquiring → (t.fibre p).idles = 0) ∧ (t.fibre p).errors = 255
        ∧ (t.fibre p).published = (s.fibre p).published ∧ (t.fibre p).rx = none
        ∧ (t.fibre p).tx.map (fun x => (x.out.frame, x.out.origin, x.start))
            = (s.fibre p).tx.map (fun x => (x.out.frame, x.out.origin, x.start))
        ∧ ((s.fibre p.other).link = .locked → (t.fibre p).waiting = [])
        ∧ (t.fibre p.other).link = (s.fibre p.other).link ∧ (t.fibre p.other).errors = (s.fibre p.other).errors
        ∧ t.drive.pending = s.drive.pending ||| 0x0008
        ∧ t = { s with
            fpf := { s.fpf with a := t.fpf.a, b := t.fpf.b, drops := t.fpf.drops }
            ctn := { s.ctn with line := t.ctn.line }
            pse := t.pse
            teu := { s.teu with out := t.teu.out, broadcast := t.teu.broadcast, firstDue := t.teu.firstDue }
            drive := { s.drive with pending := t.drive.pending }
            panel := { s.panel with pending := t.panel.pending } }
        ∧ (¬ s.StartsAt s.tick → t.panel = s.panel))
  ∧ (∀ (s : State) (p : FibrePort) (c : Instr), s.hold = none → (s.fibre p).link = .locked → (s.fibre p.other).link = .locked →
      (c = .lightLost p ∨ c = .lockErrorLimit p ∨ (c = .codeError p ∧ (s.fibre p).lockErrors = 7)) →
      (∀ x, (s.fibre p.other).tx = some x → x.presented ≠ some s.tick) →
      let came := (s.fibre p).rx.map fun r => 2 * (s.tick - r.arrival).toInt.toNat
      let shut (o : OutFrame) : OutFrame := if o.incoming = some p then
          { o with incoming := none, stomped := o.stomped || came.isSome, bytes := min o.bytes (came.getD o.bytes), crc := none }
        else o
      let wrap (f : Frame) : Frame := { f with flags := f.flags ||| (if f.wrapped then 0x40 else 0x80) }
      let moved (o : OutFrame) : OutFrame := if o.origin = .transit then
          { o with chosen := p, frame := wrap o.frame, changed := true, crc := none }
        else
          let g : Frame := { o.frame with flags := o.frame.flags &&& 0x3F }
          if o.chosen = p then { o with frame := wrap g, changed := true, crc := none }
          else { o with frame := g, changed := false }
      let due (o : OutFrame) : Word := if o.origin = .transit ∧ (s.tick - o.due).toInt ≤ 0 then o.due else s.tick
      let reserved := match (s.fibre p.other).tx with | some x => x.fifoBytes | none => 0
      let used (w : List OutFrame) : Nat := ((w.filter fun o => o.origin = .transit).map fun o => o.frame.length.toNat + 8).sum + reserved
      let put (r : List OutFrame × List OutFrame) (o : OutFrame) : List OutFrame × List OutFrame :=
        if o.origin = .transit then
          if (o.frame.wrapped ∧ o.frame.rewrapped) ∨ 8192 < used r.1 + (o.frame.length.toNat + 8) then (r.1, r.2 ++ [o])
          else (r.1 ++ [{ moved o with due := due o }], r.2)
        else if o.origin = .ownTrip ∧ 32 ≤ (r.1.filter fun w => w.origin = .ownTrip).length then r
        else (r.1 ++ [{ moved o with due := due o }], r.2)
      let there := (s.fibre p.other).waiting.map shut
      let here := (s.fibre p).waiting.map shut
      let all := (here.filter fun o => o.origin = .transit) ++ here.filter fun o => o.origin ≠ .transit
      let after (t : State) (tx : Option Transmission) (r : List OutFrame × List OutFrame) : Prop :=
        (t.fibre p).waiting = []
        ∧ t.fibre p.other = { s.fibre p.other with
            tx := tx, waiting := r.1 }
        ∧ t.fpf.drops = r.2.foldl (fun n _ => min 65535 (n + 1)) s.fpf.drops
      ((s.fibre p.other).tx ≠ none ∨ there ≠ [] → ∃ t, exec c s = .next t
        ∧ after t ((s.fibre p.other).tx.map fun x => { x with out := shut x.out }) (all.foldl put (there, [])))
      ∧ (∀ o rest, (s.fibre p.other).tx = none → there = [] → all = o :: rest → (∀ x ∈ rest, o.cls ≤ x.cls) →
        ¬ (o.origin = .transit ∧ o.frame.wrapped ∧ o.frame.rewrapped) → ∃ t, exec c s = .next t
        ∧ after t (some ⟨moved o, due o, 0, some s.tick⟩) (rest.foldl put ([], []))))

/-- R6 to R10, R12 to R14, R34, R52: the header of a frame that a node passes on when the output port is LOCKED (`g` is the frame sent on:
the line node sets PASSED, a follower waiting outside the plan JOIN_PENDING in a CYCLE frame, a node in PASSIVE changes nothing), and of
one turned back at a down port. `plain` is a CYCLE frame copy whose section is not the node's to write: one wrapped, one with RESTART,
one of another line node, one that does not list the node, or one in JOINING. A frame goes before a less urgent one presented at the same
instant: that one waits in the model's order, and the start of an own FRAGMENT or TILE frame is taken back, log entry 75. The ticks are
the model's, log entry 2. -/
def Obligations.HeadersAreSentOnOrWrapped : Prop :=
  (∀ (s : State) (p : FibrePort) (arrival : Word) (f : Frame), s.hold = none → (s.fibre p).link = .locked → f.wf →
      validLength f.kind f.length.toNat = true →
      let own := s.ctn.config.address
      let plain (c : CycleBody) : Prop := s.ctn.state ∉ [.aligned, .run] ∨ f.wrapped ∨ f.restart
        ∨ s.ctn.fol.lineAddress ≠ some f.source ∨ own ∉ c.addresses
      ((s.ctn.state = .passive ∧ f.kind ∈ [Kind.cycle, Kind.trip, Kind.fragment, Kind.tile])
        ∨ (s.ctn.state ≠ .passive ∧ f.kind ∈ [Kind.trip, Kind.fragment, Kind.tile]
          ∧ f.source ≠ own ∧ f.dest ≠ own ∧ ¬ (s.ctn.config.role = .line ∧ f.passed ∧ ¬ f.wrapped))
        ∨ (s.ctn.state ≠ .passive ∧ s.ctn.config.role = .follower ∧ f.source ≠ own ∧ f.dest ≠ own
          ∧ f.kind = Kind.cycle ∧ ∀ c, f.body = .cycle c → plain c)) →
      (s.fibre p.other).link = .locked →
      let g := if s.ctn.state ≠ .passive ∧ s.ctn.config.role = .line then f.withFlag 5
        else if f.kind = Kind.cycle ∧ s.ctn.state = .joining ∧ s.ctn.config.role = .follower ∧ s.ctn.plan ≠ [] ∧ own ∉ s.ctn.plan then
          f.withFlag 1
        else f
      let s' := (s.reach (arrival + 3)).onFibre p fun x => { x with rx := some ⟨arrival, none, false, false⟩ }
      let o : OutFrame := ⟨g, .transit, p.other, some p, g != f, false, none, f.length.toNat + 8, 0⟩
      let y : Transmission := ⟨o, arrival + 96, 0, some s'.tick⟩
      ((∀ x, (s.fibre p.other).tx = some x → x.presented = some s'.tick → ¬ o.cls < x.out.cls) →
        exec (.frameHeaderReceived p arrival (some f)) s = .next
          (if (s.fibre p.other).tx = none ∧ (s.fibre p.other).waiting = [] then
            s'.onFibre p.other fun x => { x with tx := some y }
          else if (s.fibre p.other).fifoUsed + (f.length.toNat + 8) ≤ 8192 then
            s'.onFibre p.other fun x => { x with waiting := x.waiting ++ [{ o with due := arrival + 96 }] }
          else s'.onFpf fun x => { x with drops := min 65535 (x.drops + 1) }))
      ∧ (∀ x, (s.fibre p.other).tx = some x → x.presented = some s'.tick →
        (o.cls < x.out.cls → x.out.cls < 4 → x.fifoBytes = 0 →
          (x.out.origin = .transit → (s.fibre p.other).fifoUsed + x.out.frame.size ≤ 8192) →
          ∃ t, exec (.frameHeaderReceived p arrival (some f)) s = .next t
            ∧ t.fibre p.other = { s.fibre p.other with
                tx := some y, waiting := { x.out with due := x.start } :: (s.fibre p.other).waiting }
            ∧ t = { s' with fpf := { s'.fpf with a := t.fpf.a, b := t.fpf.b }, ctn := { s.ctn with line := t.ctn.line } })
        ∧ (∀ (h : Fin 16) (id : Half) (last first : Bool), x.out.origin = .ownFragment h id last first →
          let d := s.pse.descriptors.get h
          let back (u : PacketStore) (bits : Half) : Prop := exec (.frameHeaderReceived p arrival (some f)) s = .next
            (({ s' with
              pse := { u with grant := s.pse.grant.map fun z => { z with strip := z.strip + x.out.frame.size } }
              panel := { s.panel with pending := s.panel.pending ||| bits } } : State).onFibre p.other fun z => { z with tx := some y })
          let logged (c : Completion) (z : Strip) : PacketStore := { s.pse with
            order := s.pse.order.filter (· != h)
            descriptors := s.pse.descriptors.set h ⟨none, some ⟨z.id, z.stamp.id, c == .lost⟩⟩
            log := (if 16 ≤ s.pse.log.length then s.pse.log.drop 1 else s.pse.log) ++ [⟨z.id, z.stamp.id, c⟩]
            overrun := s.pse.overrun || decide (16 ≤ s.pse.log.length) }
          let unsent (z : Strip) : Strip := { z with
            sent := z.sent - (x.out.frame.size - 40), state := if first = true ∧ z.state = .sending then .queued else z.state }
          ((∀ z, d.strip = some z → z.id ≠ id) → back s.pse 0)
          ∧ (∀ z, d.strip = some z → z.id = id →
            (z.lostDue = true → back (logged .lost z) 0x0080)
            ∧ (z.lostDue = false → z.pending = .cancel → back (logged .cancelled z) 0x0080)
            ∧ (z.lostDue = false → z.pending = .hold → back { s.pse with
                order := s.pse.order.filter (· != h)
                descriptors := s.pse.descriptors.set h { d with
                  strip := some { unsent z with state := .held, pending := .none } } } 0)
            ∧ (z.lostDue = false → z.pending = .none → back { s.pse with
                descriptors := s.pse.descriptors.set h { d with strip := some (unsent z) } } 0)))
        ∧ (∀ (b : TileBody) (before after : List OutTile) (e : OutTile), x.out.origin = .ownTile → x.out.frame.body = .tile b →
          s.teu.out = before ++ e :: after → e.seq = b.postSeq → 0 < e.started →
          (∀ z ∈ before, ¬ (z.seq = b.postSeq ∧ 0 < z.started)) →
          let key (z : OutTile) := (z.dest, z.screen, z.index)
          let back (out : List OutTile) : Prop := exec (.frameHeaderReceived p arrival (some f)) s = .next
            (({ s' with
              pse := { s.pse with grant := s.pse.grant.map fun z => { z with tile := z.tile + x.out.frame.size } }
              teu := { s.teu with out := out } } : State).onFibre p.other fun z => { z with tx := some y })
          (1 < e.started ∨ (∀ z ∈ s.teu.out, z.started = 0 → key z ≠ key e) →
            back (before ++ { e with started := e.started - 1 } :: after))
          ∧ (∀ middle n rest, e.started = 1 → after = middle ++ n :: rest → n.started = 0 → key n = key e →
            (∀ z ∈ before ++ middle, z.started = 0 → key z ≠ key e) →
            back (before ++ { e with started := 0, data := n.data, repaint := n.repaint, seq := n.seq } :: (middle ++ rest))))))
  ∧ (∀ (s : State) (p : FibrePort) (arrival : Word) (f : Frame), s.hold = none → (s.fibre p).link = .locked → f.wf →
      validLength f.kind f.length.toNat = true →
      s.ctn.config.role = .follower → s.ctn.state ≠ .passive →
      let own := s.ctn.config.address
      let plain (c : CycleBody) : Prop := s.ctn.state ∉ [.aligned, .run] ∨ f.wrapped ∨ f.restart
        ∨ s.ctn.fol.lineAddress ≠ some f.source ∨ own ∉ c.addresses
      f.source ≠ own → f.dest ≠ own →
      (f.kind ∈ [Kind.trip, Kind.fragment, Kind.tile] ∨ (f.kind = Kind.cycle ∧ ∀ c, f.body = .cycle c → plain c)) →
      (s.fibre p.other).link ≠ .locked → (s.fibre p).tx = none → (s.fibre p).waiting = [] →
      let s' := (s.reach (arrival + 3)).onFibre p fun x => { x with rx := some ⟨arrival, none, false, false⟩ }
      exec (.frameHeaderReceived p arrival (some f)) s = .next
        (if f.wrapped ∧ f.rewrapped then s'.onFpf fun x => { x with drops := min 65535 (x.drops + 1) }
        else
          let joins : Byte := if f.kind = Kind.cycle ∧ s.ctn.state = .joining ∧ s.ctn.plan ≠ [] ∧ own ∉ s.ctn.plan then 0x02 else 0
          let g := { f with flags := f.flags ||| joins ||| (if f.wrapped then 0x40 else 0x80) }
          s'.onFibre p fun x => { x with
            tx := some ⟨⟨g, .transit, p.other, some p, true, false, none, f.length.toNat + 8, 0⟩, arrival + 96, 0, some s'.tick⟩ }))

/-- R3 to R10, R12, R13, R17, R19, R152: a header in error is counted and opens no frame; a frame removed at its header sends nothing on; a
close that is not good counts one error and stomps what has been sent on (`u`). A PROBE then goes on as `o`, stomped; an own FRAGMENT
with a single destination is handed to the packet store as lost; nothing else changes. The model's choices: a close by an idle, a start
delimiter or a loss of lock after exactly the declared size is such a close, log entry 73; a PROBE of the own source or to the own
address goes on at a follower too, log entry 97; an own FRAGMENT below 9 bytes is not recorded, log entry 74; the tick, log entry 2; what
gives way to a PROBE presented at the tick of its start, log entry 75. That a line node marks a PROBE of another source PASSED, and drops
one that is PASSED, where R17 sends it on unchanged, is DEDUCED, log entry 58. That one found by a Soft Reset is not recorded is DEDUCED, log entry
107, and that such a PROBE goes on is the model's choice, log entry 77. -/
def Obligations.ErrorsAreCountedAndStomped : Prop :=
  (∀ (s : State) (p : FibrePort) (arrival : Word), s.hold = none → (s.fibre p).link = .locked →
      (∀ frame : Option Frame,
        (frame.all fun f => !(knownKind f.kind && validLength f.kind f.length.toNat)) →
        exec (.frameHeaderReceived p arrival frame) s = .next
          ((s.reach (arrival + 3)).onFibre p fun x => { x with errors := min 255 (x.errors + 1), rx := none }))
      ∧ (∀ f : Frame, f.wf → validLength f.kind f.length.toNat = true →
        f.kind ∈ [Kind.cycle, Kind.trip, Kind.fragment, Kind.tile] →
        s.ctn.state ≠ .passive →
        let s' := (s.reach (arrival + 3)).onFibre p fun x => { x with rx := some ⟨arrival, none, false, false⟩ }
        ((f.source = s.ctn.config.address ∧ (f.kind = Kind.cycle → s.ctn.fol.lineAddress ≠ some s.ctn.config.address))
            ∨ f.dest = s.ctn.config.address
            ∨ (s.ctn.config.role = .line ∧ f.kind = Kind.cycle) →
          exec (.frameHeaderReceived p arrival (some f)) s = .next s')
        ∧ (f.source ≠ s.ctn.config.address → f.dest ≠ s.ctn.config.address → s.ctn.config.role = .line →
            f.kind ≠ Kind.cycle → f.passed → ¬ f.wrapped →
          exec (.frameHeaderReceived p arrival (some f)) s
            = .next (s'.onFpf fun x => { x with drops := min 65535 (x.drops + 1) }))))
  ∧ (∀ (s : State) (p : FibrePort) (bs : List Byte) (closing : Closing), s.hold = none → (s.fibre p).link = .locked →
      headerGood bs = true → closeOf bs closing ≠ .good →
      let crc := (bs.drop (declaredSize bs - 4)).take 4
      let shut (o : OutFrame) : OutFrame := if o.incoming = some p then
          { o with incoming := none, stomped := true, bytes := min o.bytes bs.length, crc := if o.changed then none else some crc }
        else o
      let ports (x : Fibre) : Fibre := { x with
        tx := x.tx.map fun y => { y with out := shut y.out }, waiting := x.waiting.map shut }
      let e : State := match (s.fibre p).rx with
        | some r => s.reach (r.arrival + BitVec.ofNat 32 ((bs.length + 1) / 2))
        | none => s
      let u := ({ e with fpf := { s.fpf with a := ports s.fpf.a, b := ports s.fpf.b } } : State).onFibre p fun x =>
        { x with errors := min 255 (x.errors + 1), rx := none }
      let own : Prop := s.ctn.state ≠ .passive ∧ byteAt bs 1 = s.ctn.config.address
      let line : Prop := s.ctn.state ≠ .passive ∧ s.ctn.config.role = .line
      let undelivered : Prop := own ∧ s.discards p = false ∧ byteAt bs 4 = Kind.fragment ∧ byteAt bs 0 ≠ 0xFF ∧ 9 ≤ bs.length
      let f : Frame := ⟨byteAt bs 0, byteAt bs 1, BitVec.ofNat 16 (declaredSize bs - 8), byteAt bs 4, byteAt bs 5,
        .other ((bs.take (declaredSize bs - 4)).drop 6)⟩
      let g : Frame := if line then { f with flags := f.flags ||| 0x20 } else f
      let o : OutFrame := ⟨g, .transit, p.other, none, g != f, true, if g = f then some crc else none,
        min (f.length.toNat + 8) bs.length, 0⟩
      (byteAt bs 4 ≠ Kind.probe → ¬ undelivered → exec (.badFrameClose p bs closing) s = .next u)
      ∧ (byteAt bs 4 = Kind.probe →
        (line → own → exec (.badFrameClose p bs closing) s = .next u)
        ∧ (line → ¬ own → f.passed → ¬ f.wrapped →
            exec (.badFrameClose p bs closing) s = .next (u.onFpf fun x => { x with drops := min 65535 (x.drops + 1) }))
        ∧ (¬ (line ∧ (own ∨ (f.passed ∧ ¬ f.wrapped))) →
            ∃ t, exec (.badFrameClose p bs closing) s = .next t ∧ u.SendsOn t o (u.tick + 96)))
      ∧ (undelivered → 16 ≤ (byteAt bs 6).toNat → exec (.badFrameClose p bs closing) s = .next u)
      ∧ (∀ h : Fin 16, undelivered → (byteAt bs 6).toNat = h.val →
        let id : Half := byteAt bs 7 ++ byteAt bs 8
        let d := s.pse.descriptors.get h
        let becomes (t : State) (v : PacketStore) (bits : Half) : Prop := t = { u with
          pse := { v with offer := none }, panel := { s.panel with pending := s.panel.pending ||| bits } }
        let lost (v : PacketStore) (stamp : Byte) : PacketStore := { v with
          log := (if 16 ≤ s.pse.log.length then s.pse.log.drop 1 else s.pse.log) ++ [⟨id, stamp, .lost⟩]
          overrun := s.pse.overrun || decide (16 ≤ s.pse.log.length) }
        ∃ t, exec (.badFrameClose p bs closing) s = .next t
          ∧ t.ctn = u.ctn ∧ (t.fibre p).rx = none ∧ (t.fibre p).errors = (u.fibre p).errors
          ∧ (∀ z, d.strip = some z → z.id = id → s.Loses t h z)
          ∧ (s.pse.grant = none →
            (∀ z, d.strip = some z → z.id = id →
              (s.Transmits h id →
                becomes t { s.pse with descriptors := s.pse.descriptors.set h { d with strip := some { z with lostDue := true } } } 0)
              ∧ (¬ s.Transmits h id → becomes t (lost { s.pse with
                  order := s.pse.order.filter (· != h)
                  descriptors := s.pse.descriptors.set h ⟨none, some ⟨z.id, z.stamp.id, true⟩⟩ } z.stamp.id) 0x0080))
            ∧ ((∀ z, d.strip = some z → z.id ≠ id) →
              (∀ y, d.kept = some y → y.id = id → y.lost = false →
                becomes t (lost { s.pse with
                  descriptors := s.pse.descriptors.set h { d with kept := some { y with lost := true } } } y.stampId) 0x0080)
              ∧ ((∀ y, d.kept = some y → y.id = id → y.lost = true) → becomes t s.pse 0)))))

/-- R6, R12, R14, R29, R39, R151 to R153, R165: when a transmission ends and frames wait at its LOCKED port, the first waiting frame of the
most urgent class leaves, and the departure of an own probe or cycle frame is noted, of the latter with its return timeout (also of one
that departs after the next boundary or in PROBING: the model's choice, log entry 79); with nothing waiting and no grant in
hand the transmitter is left free; an own fragment or tile frame that closes at the transmitter (STRIP_DONE is bit 7). The tick is the model's, log entry 2. -/
def Obligations.TransmissionEndsServeTheArbiter : Prop :=
  ((∀ (s : State) (p : FibrePort) (x : Transmission), s.hold = none → (s.fibre p).link = .locked →
        (s.fibre p).tx = some x → x.out.incoming = none → x.out.origin = .transit → (s.fibre p).waiting ≠ [] →
        ∃ t i o y, exec (.transmissionEnd p) s = .next t
          ∧ (s.fibre p).waiting[i]? = some o
          ∧ (∀ w ∈ (s.fibre p).waiting, o.cls ≤ w.cls)
          ∧ (∀ j w, j < i → (s.fibre p).waiting[j]? = some w → o.cls < w.cls)
          ∧ (t.fibre p).tx = some y ∧ y.out = o
          ∧ (t.fibre p).sent = some ⟨x.out, x.out.bytes, if x.out.stomped then .stomped else .ended⟩
          ∧ (t.fibre p).waiting = (s.fibre p).waiting.eraseIdx i
          ∧ y.start = (if (t.tick - o.due).toInt ≤ 0 then o.due else t.tick)
          ∧ (o.origin ∉ [.ownCycle .a, .ownCycle .b, .ownProbe] → t.ctn = s.ctn)
          ∧ (o.origin = .ownProbe → t.ctn.line = { s.ctn.line with
              flight := s.ctn.line.flight.map fun z => { z with departure := some y.start } })
          ∧ (∀ q, o.origin = .ownCycle q →
              let d := if s.ctn.config.role = .line then s.ctn.line.delay.getD 0 else s.ctn.fol.delay
              let expiry := y.start + BitVec.ofNat 32 (d + (o.frame.length.toNat + 8 + 1) / 2 + s.ctn.limits.returnMargin)
              let timer : Option ReturnTimer := if o.frame.restart then none
                else some ⟨y.start, if (expiry - s.ctn.next).toInt ≤ 0 then expiry else s.ctn.next, true⟩
              t.ctn.line = match q with
                | .a => { s.ctn.line with returnA := timer }
                | .b => { s.ctn.line with returnB := timer })
          ∧ t.tick = (s.reach (x.start + BitVec.ofNat 32 ((x.out.bytes + 1) / 2))).tick
          ∧ t = { s with
              tick := t.tick
              fpf := { s.fpf with a := t.fpf.a, b := t.fpf.b }
              ctn := { s.ctn with line := t.ctn.line }
              pse := t.pse
              teu := { s.teu with out := t.teu.out, broadcast := t.teu.broadcast, firstDue := t.teu.firstDue } })
    ∧ (∀ (s : State) (p : FibrePort) (x : Transmission), s.hold = none → (s.fibre p).tx = some x → x.out.incoming = none →
        x.out.origin ∈ [.transit, .ownTrip, .ownCycle .a, .ownCycle .b, .ownProbe] →
        (s.fibre p).waiting = [] → s.pse.grant = none → s.pse.offer = none →
        exec (.transmissionEnd p) s = .next
          ((s.reach (x.start + BitVec.ofNat 32 ((x.out.bytes + 1) / 2))).onFibre p fun f => { f with
            tx := none, sent := some ⟨x.out, x.out.bytes, if x.out.stomped then .stomped else .ended⟩ })))
  ∧ (∀ (s : State) (p : FibrePort) (x : Transmission), s.hold = none → (s.fibre p).tx = some x → x.out.incoming = none →
      (s.fibre p).waiting = [] → s.pse.grant = none →
      let ends (u : PacketStore) (v : TileUnit) (bits : Half) : Prop := exec (.transmissionEnd p) s = .next
        (({ s with
          tick := (s.reach (x.start + BitVec.ofNat 32 ((x.out.bytes + 1) / 2))).tick
          pse := { u with offer := none }, teu := v
          panel := { s.panel with pending := s.panel.pending ||| bits } }).onFibre p fun z => { z with
          tx := none, sent := some ⟨x.out, x.out.bytes, if x.out.stomped then .stomped else .ended⟩ })
      (∀ (h : Fin 16) (id : Half) (last first : Bool), x.out.origin = .ownFragment h id last first →
        let d := s.pse.descriptors.get h
        let logged (o : Completion) (y : Strip) : PacketStore := { s.pse with
          order := s.pse.order.filter (· != h)
          descriptors := s.pse.descriptors.set h ⟨none, some ⟨y.id, y.stamp.id, o == .lost⟩⟩
          log := (if 16 ≤ s.pse.log.length then s.pse.log.drop 1 else s.pse.log) ++ [⟨y.id, y.stamp.id, o⟩]
          overrun := s.pse.overrun || decide (16 ≤ s.pse.log.length) }
        ((∀ y, d.strip = some y → y.id ≠ id) → ends s.pse s.teu 0)
        ∧ (∀ y, d.strip = some y → y.id = id →
          (y.lostDue = true → ends (logged .lost y) s.teu 0x0080)
          ∧ (y.lostDue = false → y.pending = .cancel → ends (logged .cancelled y) s.teu 0x0080)
          ∧ (y.lostDue = false → y.pending ≠ .cancel → last = true → ends (logged .sent y) s.teu 0x0080)
          ∧ (y.lostDue = false → last = false →
            let unsent := (y.data.length - y.sent + 255) / 256
            (y.pending = .hold → ends { s.pse with
              order := s.pse.order.filter (· != h)
              descriptors := s.pse.descriptors.set h { d with
                strip := some { y with pages := unsent, state := .held, pending := .none } } } s.teu 0)
            ∧ (y.pending = .none → ends { s.pse with
              descriptors := s.pse.descriptors.set h { d with strip := some { y with pages := unsent } } } s.teu 0))))
      ∧ (∀ (b : TileBody), x.out.origin = .ownTile → x.out.frame.body = .tile b →
        ends s.pse { s.teu with out := s.teu.out.filter fun e => !(e.seq == b.postSeq
          && decide (0 < e.started ∧ (if e.dest = 0xFF ∧ (e.row.any BroadcastRow.two = true
              ∨ (e.row = none ∧ s.ctn.breakIx ≠ some .intact)) then 2 else 1) ≤ e.started)) } 0))

/-- R15: the route table is recomputed at every change of the plan or of the break index held. -/
def Obligations.RouteTableFollowsThePlan : Prop :=
  ∀ (c : Instr) (s t : State), s.RoutesCurrent → exec c s = .next t → t.RoutesCurrent

/-- R24, R150, R168, R170: Configure Node. A command out of its states is refused NOT_NOW, one with a field out of range RANGE; taken in
PASSIVE, or in JOINING with address and role unchanged, it writes the record and the node stays in its state; otherwise the node enters
PASSIVE. A node that becomes the console by it deals with its strips; that one that ceases to be it empties the console's queue and
table is the model's choice, log entry 36. That the strips are dealt with
in the order of their handles is the model's choice, log entry 43, and so is that a record is made beside one of the same key, log entry
102; that one with a pending CANCEL stays is DEDUCED, log entry 70, and that the events carried are forgotten on entry into PASSIVE, log
entry 86, and so is that NOT_NOW comes before RANGE where both apply, log entry 21. What becomes of an own TRIP frame presented at the
instant of that entry is the model's choice, log entry 113. -/
def Obligations.ConfigureNodeWritesTheRecord : Prop :=
  ∀ (s : State) (p : SerialPort) (c : ConfigureParams), s.Arrives p 0x20 →
    (s.ctn.state ∉ [.passive, .joining] →
      exec (.configureNode p c) s = .next (s.respond p 0x20 .notNow []))
    ∧ (s.ctn.state ∈ [.passive, .joining] →
      ¬ (c.address.toNat ≤ 48 ∧ c.role.toNat ≤ 2 ∧ 2 ≤ c.code.toNat ∧ c.code.toNat ≤ 32 ∧ 1 ≤ c.superLen.toNat
          ∧ c.superLen.toNat ≤ 64 ∧ c.console.toNat ≤ 48) →
      exec (.configureNode p c) s = .next (s.respond p 0x20 .range []))
    ∧ (s.ctn.state ∈ [.passive, .joining] →
      ∀ role : Role, c.role = role.code → c.address.toNat ≤ 48 → 2 ≤ c.code.toNat → c.code.toNat ≤ 32 →
        1 ≤ c.superLen.toNat → c.superLen.toNat ≤ 64 → c.console.toNat ≤ 48 →
      let leaves : Prop := s.ctn.state = .joining ∧ (c.address ≠ s.ctn.config.address ∨ role ≠ s.ctn.config.role)
      let u : TileUnit := { s.teu with carried := if leaves then none else s.teu.carried }
      ∃ t, exec (.configureNode p c) s = .next t
        ∧ t.ctn.config = ⟨c.address, role, c.membership, c.code.toNat, c.superLen.toNat, c.console, c.lineZones⟩
        ∧ t.ctn.limits = s.ctn.limits ∧ t.tru.effective = t.tru.classIn c.address c.membership
        ∧ (t.serial p).tr.status = some .ok ∧ (t.serial p).tr.response = [0x00]
        ∧ (leaves →
            t.ctn.state = .passive ∧ t.ctn.boundary = none ∧ t.ctn.plan = [] ∧ t.ctn.breakIx = none ∧ t.ctn.cycle = 0
            ∧ t.ctn.fol.offset = none ∧ t.ctn.fol.lineAddress = none ∧ t.ctn.fol.delay = 0 ∧ t.ctn.fol.align = 0
            ∧ t.drive.pending.getLsbD 1 = true ∧ ∀ q, (s.fibre q).OwnDiscarded (t.fibre q) s.tick)
        ∧ ((s.ctn.state = .passive ∨ (c.address = s.ctn.config.address ∧ role = s.ctn.config.role)) →
            t.ctn = { s.ctn with config := t.ctn.config } ∧ t.fpf = s.fpf)
        ∧ (s.isConsole = false → t.isConsole = true → t.teu = u ∧ s.StripsStayHere t)
        ∧ (s.isConsole = true → t.isConsole = false →
            t.teu = { u with repaints := Tab.const 48 none, console := [], lost := false })
        ∧ (s.isConsole = t.isConsole → t.teu = u)
        ∧ (¬ (s.isConsole = false ∧ t.isConsole = true) → t.pse.descriptors = s.pse.descriptors ∧ t.pse.order = s.pse.order
            ∧ t.pse.log = s.pse.log ∧ t.pse.records = s.pse.records)
        ∧ t = { s with
            fpf := t.fpf, ctn := t.ctn, axe := t.axe
            tru := { s.tru with entries := t.tru.entries, active := t.tru.active, effective := t.tru.effective }
            tgu := { s.tgu with triggers := t.tgu.triggers, lines := t.tgu.lines }
            pse := t.pse, teu := t.teu
            drive := { s.drive with tr := t.drive.tr, pending := t.drive.pending }
            panel := { s.panel with pending := t.panel.pending }
            free := t.free })

/-- R26, R29: a taken Join. The destination 0xFF of the PROBE frame is DEDUCED, log entry 8. That
the events carried are forgotten is DEDUCED, log entry 86.
An own FRAGMENT or TILE frame that started at this very tick gives way to a TRIP, CYCLE or PROBE frame
(`recalledIn`): the model's choice, log entry 75. -/
def Obligations.JoinEntersTheRing : Prop :=
  ∀ (s : State) (p : SerialPort), s.Arrives p 0x21 →
    (¬ (s.ctn.state = .passive ∧ s.ctn.config.address ≠ 0 ∧ s.ctn.config.role ≠ .none) →
      exec (.join p) s = .next (s.respond p 0x21 .notNow []))
    ∧ (s.ctn.state = .passive → s.ctn.config.address ≠ 0 → s.ctn.config.role ≠ .none →
      ∃ t, exec (.join p) s = .next t
        ∧ (t.serial p).tr.status = some .ok
        ∧ t.lu = { s.lu with window := [] } ∧ t.cfe = { s.cfe with own := none, table := Tab.const 48 none }
        ∧ t.tru.remote = Tab.const 48 none ∧ t.teu = { (s.recalledIn t).teu with repaints := Tab.const 48 none, carried := none }
        ∧ t.ctn.config = s.ctn.config ∧ t.ctn.limits = s.ctn.limits ∧ t.drive.pending.getLsbD 1 = true
        ∧ (s.ctn.config.role = .follower →
            t.ctn = { s.ctn with
              state := .joining, plan := [], breakIx := none, cycle := 0
              fol := { s.ctn.fol with
                offset := none, lineAddress := none, delay := 0, align := 0, step := 0, holdover := 0, unaligned := false
                closed := none, closedBefore := none, waited := none, thisA := none, thisB := none, nextA := none, nextB := none, seen := []
                acquisition := none, restart := none } }
            ∧ t.fpf = s.fpf)
        ∧ (s.ctn.config.role = .line →
            t.ctn = { s.ctn with
              state := .probing
              line := { s.ctn.line with
                flight := t.ctn.line.flight, probeNumber := s.ctn.line.probeNumber + 1, repeatAt := none } }
            ∧ t.ctn.line.flight.map (fun x => (x.number, x.leg)) = some (s.ctn.line.probeNumber, .a)
            ∧ (s.fpf.a.link = .locked → s.fpf.a.tx = none → s.fpf.a.waiting = [] →
                t.ctn.line.flight.map ProbeFlight.departure = some (some s.tick)
                ∧ t.fpf = { s.fpf with a := { s.fpf.a with tx := some ⟨⟨⟨0xFF, s.ctn.config.address, 51, 0x02, 0,
                    .probe ⟨s.ctn.line.probeNumber, 0, List.replicate 47 0⟩⟩, .ownProbe, .a, none, false, false, none, 59, 0⟩,
                    s.tick, 0, some s.tick⟩ } }))
        ∧ t = { s.recalledIn t with
            fpf := t.fpf, ctn := t.ctn, cfe := t.cfe, lu := t.lu, axe := t.axe
            tru := { s.tru with
              entries := t.tru.entries, active := t.tru.active, remote := t.tru.remote, effective := t.tru.effective }
            tgu := { s.tgu with triggers := t.tgu.triggers }
            teu := t.teu
            drive := { s.drive with tr := t.drive.tr, pending := t.drive.pending }
            panel := { s.panel with pending := t.panel.pending }
            free := t.free })

/-- R27: Start and Stop.
An own FRAGMENT or TILE frame that started at this very tick gives way to a TRIP, CYCLE or PROBE frame
(`recalledIn`): the model's choice, log entry 75. -/
def Obligations.StartAndStopMoveBetweenAlignedAndRun : Prop :=
  ∀ (s : State) (p : SerialPort),
    (s.Arrives p 0x22 →
      (¬ (s.ctn.state = .aligned ∧ s.lineState = some .halt) →
        exec (.start p) s = .next (s.respond p 0x22 .notNow []))
      ∧ (s.ctn.state = .aligned → s.lineState = some .halt →
        ∃ t, exec (.start p) s = .next t
          ∧ { s.ctn with state := .run }.SameButDepartures t.ctn ∧ t.reads = 0 ∧ t.drive.pending.getLsbD 1 = true
          ∧ (t.serial p).tr.status = some .ok
          ∧ t = { s.recalledIn t with
              ctn := t.ctn, reads := 0, fpf := t.fpf, axe := t.axe
              tru := { s.tru with
                entries := t.tru.entries, active := t.tru.active, seq := t.tru.seq, effective := t.tru.effective }
              tgu := { s.tgu with triggers := t.tgu.triggers }
              drive := { s.drive with tr := t.drive.tr, pending := t.drive.pending }
              panel := { s.panel with pending := t.panel.pending }
              free := t.free }))
    ∧ (s.Arrives p 0x23 →
      (¬ (s.ctn.state = .run ∧ (s.lineState = some .halt ∨ s.lineState = some .tripHold)) →
        exec (.stop p) s = .next (s.respond p 0x23 .notNow []))
      ∧ (s.ctn.state = .run → (s.lineState = some .halt ∨ s.lineState = some .tripHold) →
        ∃ t, exec (.stop p) s = .next t
          ∧ { s.ctn with state := .aligned }.SameButDepartures t.ctn ∧ t.drive.pending.getLsbD 1 = true
          ∧ (t.serial p).tr.status = some .ok
          ∧ (∀ i, (t.axe.published.get i).valid = false)
          ∧ t = { s.recalledIn t with
              ctn := t.ctn, fpf := t.fpf, axe := t.axe
              tru := { s.tru with
                entries := t.tru.entries, active := t.tru.active, seq := t.tru.seq, effective := t.tru.effective }
              tgu := { s.tgu with triggers := t.tgu.triggers }
              drive := { s.drive with tr := t.drive.tr, pending := t.drive.pending }
              panel := { s.panel with pending := t.panel.pending }
              free := t.free }))

/-- R35, R65, R67, R118, R161, R171: a taken Ring Restart asks for the restart; the node goes on to its next boundary. That V* becomes 0 is
DEDUCED, log entry 54; that FIRST is no longer due is DEDUCED from the table of R171, log entry 50.
That the events carried are forgotten is DEDUCED, log entry 86. -/
def Obligations.RingRestartIsAskedFor : Prop :=
  ∀ (s : State) (p : SerialPort), s.Arrives p 0x24 →
    (¬ (s.ctn.config.role = .line ∧ s.ctn.state ∈ [.aligned, .run] ∧ s.lineState = some .halt) →
      exec (.ringRestart p) s = .next (s.respond p 0x24 .notNow []))
    ∧ (s.ctn.config.role = .line → s.ctn.state ∈ [.aligned, .run] → s.lineState = some .halt →
      ∃ t, exec (.ringRestart p) s = .next t
        ∧ t.ctn = { s.ctn with line := { s.ctn.line with restartAsked := true } }
        ∧ t.lu = { s.lu with restartPending := true, target := 0 }
        ∧ (∀ i r, s.tru.remote.get i = some r → t.tru.remote.get i = some { r with carried := true })
        ∧ s.StoreRestarts t
        ∧ (t.serial p).tr.status = some .ok
        ∧ t = { s with
            ctn := t.ctn, lu := t.lu, tru := { s.tru with remote := t.tru.remote }, pse := t.pse
            teu := { s.teu with
              carried := none, firstDue := false
              out := s.teu.out.map fun e => { e with row := e.row.map fun r => { r with first := false } } }
            drive := { s.drive with tr := t.drive.tr }
            panel := { s.panel with pending := t.panel.pending } })

/-- R15, R29 to R33, R157: the plan, the break index and D that the B probe completes, and its return or loss, which puts them in force when they
pass the cycle time check; a wrapped A probe is kept and the B probe follows; the route table entry of a plan position in an intact
ring and in a ring broken after a plan index. A negative estimate is taken as 0: DEDUCED, log entry 40. That an open ring's D does not
set D_HELD is DEDUCED, log entry 55; that it keeps a D that is a probe estimate is the model's choice, log entry 89, and so
are that the rotating start returns to 0 only at a plan that passes the check, log entry 118, and that a probe still in reception at the
expiry of its timeout is lost, log entry 112. The ticks are the
model's, log entry 2. -/
def Obligations.PlansBreaksAndRoutes : Prop :=
  ((∀ (own : Byte) (l : LineTiming) (a b : ProbeResult), a.list.length ≤ 47 → b.list.length ≤ 47 →
      (own :: (a.list ++ b.list)).Nodup → a.list.length + b.list.length ≤ 47 →
      let heldOr (sum : Int) := if l.delay.isSome ∧ l.measured then l.delay.getD 0 else sum.toNat
      (b.wrapped = false → (planOf own l a (some b)).plan = own :: b.list.reverse
        ∧ (planOf own l a (some b)).brk = .intact ∧ (planOf own l a (some b)).delay = b.estimate.toNat)
      ∧ (b.wrapped = true → a.wrapped = true →
          (planOf own l a (some b)).plan = own :: (a.list ++ b.list.reverse)
          ∧ (planOf own l a (some b)).brk = .after a.list.length
          ∧ (planOf own l a (some b)).delay = heldOr (a.estimate + b.estimate))
      ∧ (b.wrapped = true → a.wrapped = false →
          (planOf own l a (some b)).plan = own :: b.list.reverse ∧ (planOf own l a (some b)).brk = .after 0
          ∧ (planOf own l a (some b)).delay = heldOr b.estimate)
      ∧ (a.wrapped = true →
          (planOf own l a none).plan = own :: a.list ∧ (planOf own l a none).brk = .after a.list.length
          ∧ (planOf own l a none).delay = heldOr a.estimate)
      ∧ (a.wrapped = false →
          (planOf own l a none).plan = [own] ∧ (planOf own l a none).brk = .opened
          ∧ (planOf own l a none).delay = l.delay.getD 0)
      ∧ ((b.wrapped = true → (planOf own l a (some b)).setsHeld = (l.delay.isSome && l.measured))
        ∧ (b.wrapped = false → (planOf own l a (some b)).setsHeld = false)
        ∧ (a.wrapped = true → (planOf own l a none).setsHeld = (l.delay.isSome && l.measured))
        ∧ (a.wrapped = false → (planOf own l a none).setsHeld = false)))
    ∧ (∀ (s : State) (d : Word), s.hold = none → s.ctn.config.role = .line → s.ctn.state = .probing →
      let own := s.ctn.config.address
      let ticks := s.ctn.config.code * 15625
      let a : ProbeResult := s.ctn.line.aResult.getD ⟨false, [], 0⟩
      let completes (t : State) (r : PlanResult) : Prop :=
        let fits := 2 * r.delay + (86 + 20 * r.plan.length) + 532 + 256 < ticks
        t.ctn.line.delay = some r.delay ∧ t.ctn.line.held = (s.ctn.line.held || r.setsHeld) ∧ t.ctn.line.flight = none
        ∧ t.ctn.line.aResult = none ∧ t.drive.pending.getLsbD 3 = true ∧ t.ctn.config = s.ctn.config
        ∧ (fits → t.ctn.state = .aligned ∧ t.ctn.plan = r.plan ∧ t.ctn.breakIx = some r.brk ∧ t.ctn.cycle = 0
            ∧ t.ctn.boundary = some t.tick ∧ t.ctn.next = t.tick + BitVec.ofNat 32 ticks ∧ t.ctn.line.tooSlow = false
            ∧ t.fpf.routes = routesOf r.plan (some r.brk) own ∧ t.lu.restartPending = false ∧ t.pse.rotate = 0)
        ∧ (¬ fits → t.ctn.state = .probing ∧ t.ctn.plan = s.ctn.plan ∧ t.ctn.breakIx = s.ctn.breakIx
            ∧ t.ctn.line.tooSlow = true ∧ t.ctn.line.repeatAt = some (t.tick + 12500000)
            ∧ t.lu.restartPending = s.lu.restartPending ∧ t.pse.rotate = s.pse.rotate)
      (∀ (p : FibrePort) (leg : FibrePort) (arrival : Word) (f : Frame) (b : ProbeBody), (s.fibre p).link = .locked →
        s.discards p = false →
        f.wfOf Kind.probe → f.body = .probe b → f.source = own → b.count.toNat ≤ 47 →
        s.ctn.line.flight = some ⟨b.number, leg, some d⟩ → s.arrivalAt p arrival = arrival → (arrival - d).toNat < 125000 →
        let r : ProbeResult := ⟨f.wrapped, b.slots.take b.count.toNat, ((arrival - d).toNat : Int) - 30 * b.count.toNat⟩
        ∃ t, exec (.probeReturn p arrival f) s = .next t
          ∧ t.ctn.line.returned = some ⟨arrival, p, f.wrapped, r.list⟩
          ∧ (leg = .b → completes t (planOf own s.ctn.line a (some r)))
          ∧ (leg = .a → f.wrapped = true → t.ctn.state = .probing ∧ t.ctn.line.aResult = some r
              ∧ t.ctn.line.flight.map (fun x => (x.number, x.leg)) = some (s.ctn.line.probeNumber, .b)
              ∧ t.ctn.line.probeNumber = s.ctn.line.probeNumber + 1 ∧ t.ctn.plan = s.ctn.plan))
      ∧ (∀ n, s.ctn.line.flight = some ⟨n, .b, some d⟩ →
        ∃ t, exec .probeTimeout s = .next t ∧ completes t (planOf own s.ctn.line a none))))
  ∧ (∀ (plan : List Byte) (own dest : Byte) (i j : Nat), plan.Nodup → plan[i]? = some own → plan[j]? = some dest → i ≠ j →
      let m : Int := plan.length
      routeOf plan (some .intact) own dest = (if ((j : Int) - i) % m ≤ ((i : Int) - j) % m then .a else .b)
      ∧ (∀ k < plan.length, routeOf plan (some (.after k)) own dest
          = (if ((i : Int) - (k + 1)) % m < ((j : Int) - (k + 1)) % m then .a else .b))
      ∧ routeOf plan (some .opened) own dest = .none ∧ routeOf plan none own dest = .none)

/-- R29, R30, R32, R33: the A probe returns unwrapped: the plan is the list, D the estimate, and the cycle time is checked. -/
def Obligations.AnUnwrappedProbeCompletesThePlan : Prop :=
  ∀ (s : State) (p : FibrePort) (arrival d : Word) (f : Frame) (b : ProbeBody), s.hold = none → (s.fibre p).link = .locked →
    s.discards p = false →
    s.ctn.config.role = .line → s.ctn.state = .probing → f.wfOf Kind.probe → f.body = .probe b →
    f.source = s.ctn.config.address → ¬ f.wrapped → b.count.toNat ≤ 47 →
    s.ctn.line.flight = some ⟨b.number, .a, some d⟩ → s.arrivalAt p arrival = arrival →
    (arrival - d).toNat < 125000 → (s.ctn.config.address :: b.slots.take b.count.toNat).Nodup →
    30 * b.count.toNat ≤ (arrival - d).toNat →
    let delay := (arrival - d).toNat - 30 * b.count.toNat
    let m := b.count.toNat + 1
    ∃ t, exec (.probeReturn p arrival f) s = .next t
      ∧ t.ctn.line.delay = some delay ∧ t.drive.pending.getLsbD 3 = true ∧ t.ctn.config = s.ctn.config
      ∧ t.ctn.line.returned = some ⟨arrival, p, false, b.slots.take b.count.toNat⟩
      ∧ (2 * delay + (86 + 20 * m) + 532 + 256 < s.ctn.config.code * 15625 →
          t.ctn.state = .aligned ∧ t.ctn.plan = s.ctn.config.address :: b.slots.take b.count.toNat
          ∧ t.ctn.breakIx = some .intact ∧ t.ctn.cycle = 0 ∧ t.ctn.boundary = some t.tick
          ∧ t.ctn.next = t.tick + BitVec.ofNat 32 (s.ctn.config.code * 15625)
          ∧ t.ctn.line.openA = false ∧ t.ctn.line.openB = false ∧ t.ctn.line.joinPending = false
          ∧ t.ctn.line.tooSlow = false ∧ t.ctn.line.flight = none
          ∧ t.fpf.routes = routesOf t.ctn.plan (some .intact) s.ctn.config.address
          ∧ (∀ i, indexAddress i ∉ t.ctn.plan → t.cfe.table.get i = none ∧ t.tru.remote.get i = none)
          ∧ t.lu.window.map Sample.boundary = [0, 1, 2] ∧ t.drive.pending.getLsbD 1 = true)
      ∧ (¬ 2 * delay + (86 + 20 * m) + 532 + 256 < s.ctn.config.code * 15625 →
          t.ctn.state = .probing ∧ t.ctn.plan = s.ctn.plan ∧ t.ctn.breakIx = s.ctn.breakIx
          ∧ t.ctn.line.tooSlow = true ∧ t.ctn.line.repeatAt = some (t.tick + 12500000) ∧ t.ctn.line.flight = none
          ∧ t.fpf.routes = s.fpf.routes)

/-- R6, R8 to R10, R12, R13, R17, R18, R29, R30, R33, R185: a lost A probe is followed by the B probe, and the repeat timer by a new A probe,
each with the next number. A probe that closed good (`u` is the state then): a follower out of PASSIVE checks an unwrapped one, appends
itself and sends it on, or, when the probe names its address, sends it on and enters PASSIVE; every other probe it sends on as it came, and
so does a node in PASSIVE; a line node removes its own, and discards one that passes it a second time. `SendsOn` says where it goes: by
the other port, turned back at a down port, at once, waiting, or discarded. The model's choices: it is sent on whatever its destination
byte, log entry 97, with a count above 47 or wrapped be it of the own source, log entries 95 and 111, and when a Soft Reset found it in
reception, log entry 77; that a probe still in reception at the expiry of its timeout is lost, log entry 112; and what becomes of an own
TRIP frame presented at the instant of the entry into PASSIVE, log entry 113. DEDUCED are the conflict at an unwrapped one of the own
source, log entry 59, and that a line node marks a probe of another source PASSED and drops one that is PASSED, where R17 sends it on
unchanged, log entry 58. The ticks are the model's, log entry 2.
An own FRAGMENT or TILE frame that started at this very tick gives way to a TRIP, CYCLE or PROBE frame
(`recalledIn`): the model's choice, log entry 75. -/
def Obligations.ProbesFollowTheirCourse : Prop :=
  (∀ s : State, s.hold = none → s.ctn.state = .probing →
      (∀ n d, s.ctn.line.flight = some ⟨n, .a, some d⟩ →
        ∃ t, exec .probeTimeout s = .next t
          ∧ t.tick = (s.reach (d + 125000)).tick
          ∧ t.ctn.line.flight.map (fun x => (x.number, x.leg)) = some (s.ctn.line.probeNumber, .b)
          ∧ t.ctn = { s.ctn with line := { s.ctn.line with
              flight := t.ctn.line.flight, aResult := some ⟨false, [], 0⟩, repeatAt := none
              probeNumber := s.ctn.line.probeNumber + 1 } })
      ∧ (∀ r, s.ctn.line.repeatAt = some r →
        ∃ t, exec .probeRepeatTimer s = .next t
          ∧ t.tick = (s.reach r).tick
          ∧ t.ctn.line.flight.map (fun x => (x.number, x.leg)) = some (s.ctn.line.probeNumber, .a)
          ∧ t = { s.recalledIn t with
              tick := t.tick
              fpf := { s.fpf with a := t.fpf.a, b := t.fpf.b, drops := t.fpf.drops }
              ctn := { s.ctn with line := { s.ctn.line with
                flight := t.ctn.line.flight, repeatAt := none, probeNumber := s.ctn.line.probeNumber + 1 } } }))
  ∧ (∀ (s : State) (p : FibrePort) (f : Frame) (b : ProbeBody), s.hold = none → (s.fibre p).link = .locked →
      f.wfOf Kind.probe → f.body = .probe b →
      let a := s.ctn.config.address
      let shut (o : OutFrame) : OutFrame := if o.incoming = some p then { o with incoming := none, crc := none } else o
      let ports (x : Fibre) : Fibre := { x with
        tx := x.tx.map fun y => { y with out := shut y.out }, waiting := x.waiting.map shut }
      let e : State := match (s.fibre p).rx with
        | some r => s.reach (r.arrival + BitVec.ofNat 32 ((f.length.toNat + 8 + 1) / 2))
        | none => s
      let u := ({ e with fpf := { s.fpf with a := ports s.fpf.a, b := ports s.fpf.b } } : State).onFibre p fun x => { x with rx := none }
      let on (g : Frame) (t : State) : Prop :=
        u.SendsOn t ⟨g, .transit, p.other, none, g != f, false, none, f.length.toNat + 8, 0⟩ (u.tick + 96)
      let names := f.source = a ∨ a ∈ b.slots.take b.count.toNat
      let checks : Prop := s.ctn.config.role = .follower ∧ s.ctn.state ≠ .passive ∧ ¬ f.wrapped ∧ b.count.toNat ≤ 47
        ∧ s.discards p = false
      let line : Prop := s.ctn.config.role = .line ∧ s.ctn.state ≠ .passive
      (¬ line → ¬ checks → ∃ t, exec (.probeAtFollower p f) s = .next t ∧ on f t)
      ∧ (checks → ¬ names → b.count.toNat < 47 → ∃ t, exec (.probeAtFollower p f) s = .next t
        ∧ on { f with body := .probe { b with count := b.count + 1, slots := b.slots.set b.count.toNat a } } t)
      ∧ (checks → ¬ names → b.count.toNat = 47 → ∃ t, exec (.probeAtFollower p f) s = .next t ∧ on f t)
      ∧ (checks → names → ∃ t v, exec (.probeAtFollower p f) s = .next t ∧ on f v
        ∧ (∀ q, (v.fibre q).OwnDiscarded (t.fibre q) v.tick)
        ∧ t.fpf.drops = v.fpf.drops ∧ t.tick = v.tick
        ∧ t.ctn.state = .passive ∧ t.drive.pending.getLsbD 5 = true ∧ t.ctn.plan = [] ∧ t.ctn.boundary = none
        ∧ t.lu.window = [] ∧ t.ctn.config = s.ctn.config ∧ t.cfe = s.cfe)
      ∧ (line → f.source = a → exec (.probeAtFollower p f) s = .next u)
      ∧ (line → f.source ≠ a → f.passed → ¬ f.wrapped →
          exec (.probeAtFollower p f) s = .next (u.onFpf fun x => { x with drops := min 65535 (x.drops + 1) }))
      ∧ (line → f.source ≠ a → ¬ (f.passed ∧ ¬ f.wrapped) →
          ∃ t, exec (.probeAtFollower p f) s = .next t ∧ on { f with flags := f.flags ||| 0x20 } t))

/-- R23, R35, R37 to R39, R47 to R49, R53, R63, R155: the boundary of a line node. `m` is the state once the cycle that ends is merged,
`g` the one with the new sample, `w` the one in which the node's own section is built. When a restart is asked for, the frame carries
RESTART, and the node enters PROBING with the A probe behind the A copy. `unsent` are the remaining bytes of a class of strips,
`backlog` those of the tile frames. The tick is the model's choice, log entry 2. That the own section is read once the other work of the
boundary is done is DEDUCED, log entry 11, and so are the destination 0xFF of both frames, log entry 8, that the events carried are
forgotten at a restart, log entry 86, and that an A copy outside its coding measures no D, log entry 47.
An own FRAGMENT or TILE frame that started at this very tick gives way to a TRIP, CYCLE or PROBE frame
(`recalledIn`): the model's choice, log entry 75. -/
def Obligations.LineNodeBoundarySendsBothCopies : Prop :=
  ∀ (s : State) (l : Word), s.hold = none → s.ctn.config.role = .line → s.ctn.state ∈ [.aligned, .run] →
    s.ctn.boundary = some l → s.ctn.plan.length ≤ 48 → s.fpf.a.link = .locked → s.fpf.b.link = .locked →
    let k := s.ctn.cycle + 1
    let m := (s.reach s.ctn.next).mergedAtBoundary
    let g := m.generate
    let w := g.boundaryWork
    let console := s.ctn.config.console
    let units (n : Nat) : Half := BitVec.ofNat 16 (min 65535 ((n + 63) / 64))
    let unsent (pr : Priority) : Nat := (w.pse.order.map fun h => match (w.pse.descriptors.get h).strip with
      | some z => if z.priority = pr then z.data.length - z.sent + 40 * ((z.data.length - z.sent + 1023) / 1024) else 0
      | none => 0).sum
    let demand (pr : Priority) : Half :=
      if console ≠ 0 ∧ console ≠ s.ctn.config.address ∧ w.routeTo console ≠ .none then units (unsent pr) else 0
    let frames (e : OutTile) : Nat := if e.dest ≠ 0xFF then 1 else match e.row with
      | some r => if r.two then 2 else 1
      | none => if w.ctn.breakIx = some .intact then 1 else 2
    let backlog : Nat := (w.teu.out.map fun e =>
      if e.dest ≠ 0xFF ∧ w.routeTo e.dest = .none then 0 else (frames e - e.started) * (e.data.length + 40)).sum
    ∃ t f c own, exec .lineNodeBoundary s = .next t
      ∧ t.tick = (s.reach s.ctn.next).tick
      ∧ t.ctn.config = s.ctn.config ∧ t.ctn.plan = s.ctn.plan ∧ t.ctn.cycle = k ∧ t.ctn.line.delay = s.ctn.line.delay
      ∧ t.fpf.a.Holds (.ownCycle .a) f ∧ t.fpf.b.Holds (.ownCycle .b) f
      ∧ f.body = .cycle c ∧ f.kind = 0x01 ∧ f.dest = 0xFF ∧ f.source = s.ctn.config.address
      ∧ f.flags &&& 0xFA = 0 ∧ f.flags.getLsbD 0 = s.ctn.line.restartAsked
      ∧ (f.flags.getLsbD 2 = false ↔ s.ctn.line.held = false ∧ (∀ x, s.ctn.line.returnA = some x → x.running = false)
          ∧ ∃ x, s.ctn.line.keptA = some x ∧ x.wraps = 0 ∧ x.coded)
      ∧ c.cycle = k ∧ c.superLen = BitVec.ofNat 8 s.ctn.config.superLen ∧ c.code = BitVec.ofNat 8 s.ctn.config.code
      ∧ c.console = s.ctn.config.console ∧ c.lineZones = s.ctn.config.lineZones
      ∧ c.delay = BitVec.ofNat 32 (s.ctn.line.delay.getD 0)
      ∧ c.planCount.toNat = s.ctn.plan.length ∧ c.addresses = s.ctn.plan
      ∧ (∃ b, t.ctn.breakIx = some b
          ∧ c.breakIx = (match b with | .intact => 0xFF | .opened => 0xFE | .after j => BitVec.ofNat 8 j))
      ∧ c.sampleBoundary = k + 2
      ∧ (∀ x, g.lu.sample (k + 2) = some x → c.sampleP = x.p ∧ c.sampleV = x.v
          ∧ c.lineState = (match x.state with | .halt => 0 | .moving => 1 | .tripRamp => 2 | .tripHold => 3))
      ∧ (s.pse.computed = none → c.grantCount = 0 ∧ c.grants = List.replicate 16 ⟨0, 0, 0⟩)
      ∧ (∀ z, s.pse.computed = some z → c.grantCount = BitVec.ofNat 8 z.entries.length
          ∧ c.grants = z.entries ++ List.replicate (16 - z.entries.length) ⟨0, 0, 0⟩ ∧ c.rotating = BitVec.ofNat 8 z.start)
      ∧ c.sections.length = 1 + (s.ctn.plan.length - 1) ∧ c.sections.head? = some own
      ∧ own.written = true ∧ own.address = s.ctn.config.address ∧ own.linkOffset = 0 ∧ own.words = s.cfe.words
      ∧ own.flags.getLsbD 2 = true ∧ own.flags.getLsbD 3 = (s.ctn.state == .run) ∧ own.flags.getLsbD 4 = false
      ∧ own.flags.getLsbD 5 = false
      ∧ own.tripClass = BitVec.ofNat 8 w.tru.summaryClass ∧ own.tripZones = w.tru.summaryZones
      ∧ own.tripCause = w.tru.summaryCause ∧ own.tripSeq = w.tru.seq
      ∧ own.errA = BitVec.ofNat 8 w.fpf.a.published ∧ own.errB = BitVec.ofNat 8 w.fpf.b.published
      ∧ own.tileDemand = (if console ≠ 0 ∧ console = s.ctn.config.address then units backlog else 0)
      ∧ own.alertDemand = demand .alert ∧ own.normalDemand = demand .normal ∧ own.repaint = w.teu.repaint
      ∧ (∀ j : Fin 8, own.axisRun.getLsbD j.val = (w.axe.published.get j).valid)
      ∧ own.flags.getLsbD 1 = decide (s.drive.tr.state = .parameters ∧ s.drive.tr.command = some 0x2E ∧ s.drive.tr.denied = false)
      ∧ ((w.teu.eventsFor k).length ≤ 2 → own.events = w.teu.eventsFor k)
      ∧ (∀ z ∈ c.sections.drop 1, z.written = false) ∧ (c.sections.drop 1).map Section.address = s.ctn.plan.drop 1
      ∧ t.cfe.own = some (own, k)
      ∧ (∀ i, addressIndex s.ctn.config.address = some i → t.cfe.table.get i = some ⟨own, k, false⟩)
      ∧ t.ctn.line.keptA = none ∧ t.ctn.line.keptB = none
      ∧ t.reads = min 255 (s.reads + 1) ∧ t.drive.pending.getLsbD 0 = true
      ∧ (s.ctn.line.restartAsked = false →
          t.ctn.state = s.ctn.state ∧ t.ctn.boundary = some s.ctn.next
          ∧ t.ctn.next = s.ctn.next + BitVec.ofNat 32 (s.ctn.config.code * 15625)
          ∧ (∀ q, (w.fibre q).tx = none → (w.fibre q).waiting = [] →
              let expiry := t.tick + BitVec.ofNat 32
                (s.ctn.line.delay.getD 0 + (86 + 20 * s.ctn.plan.length) + s.ctn.limits.returnMargin)
              (match q with | .a => t.ctn.line.returnA | .b => t.ctn.line.returnB)
                = some ⟨t.tick, if (expiry - t.ctn.next).toInt ≤ 0 then expiry else t.ctn.next, true⟩
              ∧ (t.fibre q).tx.map (fun y => (y.out.origin, y.start)) = some (.ownCycle q, t.tick))
          ∧ (¬ s.StartsAt t.tick → ∀ z e, s.pse.computed = some z → z.entries.find? (fun e => e.node == s.ctn.config.address) = some e →
              ∃ x, t.pse.grant = some x ∧ x.cycle = k ∧ x.tile = 64 * e.tile.toNat ∧ x.strip = 64 * e.strip.toNat))
      ∧ (s.ctn.line.restartAsked = true →
          t.ctn.state = .probing ∧ t.ctn.boundary = none ∧ t.drive.pending.getLsbD 1 = true
          ∧ t.ctn.line.restartAsked = false ∧ t.ctn.line.returnA = none ∧ t.ctn.line.returnB = none
          ∧ t.ctn.line.flight = some ⟨s.ctn.line.probeNumber, .a, none⟩ ∧ t.ctn.line.probeNumber = s.ctn.line.probeNumber + 1
          ∧ t.fpf.a.Holds .ownProbe ⟨0xFF, s.ctn.config.address, 51, 0x02, 0,
              .probe ⟨s.ctn.line.probeNumber, 0, List.replicate 47 0⟩⟩
          ∧ t.lu.window = [] ∧ t.pse.computed = none ∧ t.pse.grant = none ∧ t.teu.carried = none
          ∧ ∀ i, (t.axe.published.get i).valid = false)

/-- R34, R38, R39, R58, R185: the unwrapped A copy of the current cycle returns at port B before its timeout; any copy returns, unwrapped or
wrapped, by either port; a return timeout expires. The tick is the model's, log entry 2. That plan bytes beyond the plan count are not
read is DEDUCED, log entry 94; that a returned copy with a field outside its coding is kept and
measures no D, log entry 47; and that D is measured by an unwrapped copy that came before its timeout
and is delivered after the timer event, log entry 52. That a copy which closes after the boundary of the next cycle is used for nothing, whenever it came, is the model's choice, log entry 115. -/
def Obligations.ReturnsMeasureTheRingOrOpenIt : Prop :=
  (∀ (s : State) (arrival : Word) (f : Frame) (c : CycleBody) (x : ReturnTimer), s.hold = none → s.fpf.b.link = .locked →
      s.ctn.config.role = .line → s.ctn.state ∈ [.aligned, .run] → f.wfOf Kind.cycle → f.body = .cycle c →
      c.coded f.length.toNat → f.source = s.ctn.config.address → c.cycle = s.ctn.cycle → ¬ f.restart → ¬ f.wrapped →
      s.ctn.line.keptA = none → s.ctn.line.returnA = some x → x.running = true → 0 < (x.deadline - arrival).toInt →
      s.arrivalAt .b arrival = arrival → s.discards .b = false →
      ∃ t, exec (.returnedCopy .b arrival f) s = .next t
        ∧ t.ctn = { s.ctn with line := { s.ctn.line with
            delay := some (arrival - x.departure).toNat, measured := true, held := false, openA := false
            returnA := some { x with running := false }, keptA := some ⟨0, f.joinPending, c⟩ } }
        ∧ t.drive.pending.getLsbD 3 = (s.drive.pending.getLsbD 3 || s.ctn.line.openA)
        ∧ t.drive.pending.getLsbD 4 = (s.drive.pending.getLsbD 4 || f.joinPending)
        ∧ t = { s with
            tick := t.tick
            fpf := { s.fpf with a := t.fpf.a, b := t.fpf.b }
            ctn := t.ctn
            drive := { s.drive with pending := t.drive.pending } })
  ∧ (∀ (s : State) (p : FibrePort) (arrival : Word) (f : Frame) (c : CycleBody), s.hold = none → (s.fibre p).link = .locked →
      s.ctn.config.role = .line → s.ctn.state ∈ [.aligned, .run] → f.wfOf Kind.cycle → f.body = .cycle c →
      s.arrivalAt p arrival = arrival →
      let wraps : Nat := if ¬ f.wrapped then 0 else if ¬ f.rewrapped then 1 else 2
      let copy : FibrePort := if wraps = 1 then p else p.other
      let kept := match copy with | .a => s.ctn.line.keptA | .b => s.ctn.line.keptB
      let timer := match copy with | .a => s.ctn.line.returnA | .b => s.ctn.line.returnB
      let keeps : LineTiming := match copy with
        | .a => { s.ctn.line with keptA := some ⟨wraps, f.joinPending, c⟩ }
        | .b => { s.ctn.line with keptB := some ⟨wraps, f.joinPending, c⟩ }
      let timed (x : ReturnTimer) : LineTiming := if copy = .a ∧ c.coded f.length.toNat then
          { keeps with delay := some (arrival - x.departure).toNat, measured := true, held := false } else keeps
      let closed (x : ReturnTimer) : LineTiming := match copy with
        | .a => { timed x with openA := false, returnA := some { x with running := false } }
        | .b => { timed x with openB := false, returnB := some { x with running := false } }
      let wasOpen : Bool := match copy with | .a => s.ctn.line.openA | .b => s.ctn.line.openB
      let joins : Half := if f.joinPending then 0x0010 else 0
      let taken : Prop := s.discards p = false ∧ f.source = s.ctn.config.address ∧ c.cycle = s.ctn.cycle
        ∧ ¬ f.restart ∧ kept = none
      let early (x : ReturnTimer) : Prop := timer = some x ∧ (arrival - x.deadline).toInt < 0
      let leaves (t : State) (l : LineTiming) (bits : Half) : Prop := t = { s with
        tick := t.tick, fpf := { s.fpf with a := t.fpf.a, b := t.fpf.b }, ctn := { s.ctn with line := l }
        drive := { s.drive with pending := s.drive.pending ||| bits } }
      ∃ t, exec (.returnedCopy p arrival f) s = .next t
        ∧ (¬ taken → leaves t s.ctn.line 0)
        ∧ (taken → (wraps ≠ 0 ∨ ∀ x, ¬ early x) → leaves t keeps joins)
        ∧ (∀ x, taken → wraps = 0 → early x →
          (x.running = false → leaves t (timed x) joins)
          ∧ (x.running = true → leaves t (closed x) (joins ||| if wasOpen then 0x0008 else 0))))
  ∧ (∀ (s : State) (copy : FibrePort) (x : ReturnTimer), s.hold = none → s.ctn.line.timer copy = some x → x.running = true →
      ∃ t, exec (.returnTimeout copy) s = .next t
        ∧ t.tick = (s.reach x.deadline).tick
        ∧ t.ctn.line = (match copy with
          | .a => { s.ctn.line with openA := true, held := true, returnA := some { x with running := false } }
          | .b => { s.ctn.line with openB := true, returnB := some { x with running := false } })
        ∧ t.drive.pending = (if (match copy with | .a => s.ctn.line.openA | .b => s.ctn.line.openB) then s.drive.pending
            else s.drive.pending ||| 0x0008)
        ∧ t = { s with
            tick := t.tick
            ctn := { s.ctn with line := t.ctn.line }
            drive := { s.drive with pending := t.drive.pending } })

/-- R23, R42 to R46, R74: the local boundary event of a follower, and the one at which both timing copies of the cycle that begins have come
already: the timing close of that cycle follows the work of the boundary at once (DEDUCED, log entry 51). A node in ALIGNED that is above
the holdover limit at a missed cycle falls to JOINING (log entry 87, DEDUCED), and its grant goes then (log entry 53). The tick is the
model's, log entry 2. -/
def Obligations.LocalBoundaryStartsTheNextCycle : Prop :=
  (∀ (s : State) (l : Word), s.hold = none → s.ctn.config.role = .follower → s.ctn.boundary = some l →
      (s.ctn.fol.nextA = none ∨ s.ctn.fol.nextB = none) →
      ∃ t, exec .localBoundary s = .next t
        ∧ t.tick = (s.reach s.ctn.next).tick
        ∧ { s.ctn with
            boundary := some s.ctn.next, next := s.ctn.next + BitVec.ofNat 32 (s.ctn.fol.code * 15625)
            cycle := s.ctn.cycle + 1, window := .before
            fol := { s.ctn.fol with
              closed := none, closedBefore := s.ctn.fol.closed
              thisA := s.ctn.fol.nextA, thisB := s.ctn.fol.nextB, nextA := none, nextB := none } }.SameButDepartures t.ctn
        ∧ t.fpf.a.lockErrors = 0 ∧ t.fpf.b.lockErrors = 0
        ∧ (s.ctn.state ∈ [.aligned, .run] → t.drive.pending.getLsbD 0 = true ∧ t.reads = min 255 (s.reads + 1))
        ∧ (s.ctn.state ∉ [.aligned, .run] → t.reads = s.reads ∧ t.lu = s.lu ∧ t.tgu.stamps = s.tgu.stamps)
        ∧ t.ctn.config = s.ctn.config ∧ t.cfe = s.cfe ∧ t.lu = s.lu ∧ t.hold = none ∧ t.pending = s.pending)
  ∧ (∀ (s : State) (l x y : Word), s.hold = none → s.ctn.config.role = .follower → s.ctn.boundary = some l →
      s.ctn.fol.nextA = some x → s.ctn.fol.nextB = some y → s.ctn.state ∈ [.joining, .aligned, .run] →
      let m := s.ctn.next
      let k := s.ctn.cycle + 1
      let ticks := s.ctn.fol.code * 15625
      let delay : Int := s.ctn.fol.delay
      let e : Int := ((x - m).toInt + (y - m).toInt - delay) / 2
      let aligns : Prop := e.natAbs ≤ 32 ∧ 7 ≤ s.ctn.fol.align ∧ s.ctn.config.address ∈ s.ctn.plan
      let missed : Prop := s.ctn.state ∈ [.aligned, .run] ∧ k ∉ s.ctn.fol.seen
      let h := min 255 (s.ctn.fol.holdover + 1)
      let falls : Prop := missed ∧ s.ctn.state = .aligned ∧ s.ctn.limits.holdover < h
      ∃ t, exec .localBoundary s = .next t
        ∧ t.tick = (s.reach m).tick ∧ t.ctn.boundary = some m ∧ t.ctn.cycle = k ∧ t.ctn.window = .before
        ∧ t.ctn.plan = s.ctn.plan ∧ t.ctn.breakIx = s.ctn.breakIx ∧ t.ctn.config = s.ctn.config ∧ t.ctn.limits = s.ctn.limits
        ∧ t.ctn.fol = { s.ctn.fol with
            closed := some t.tick, closedBefore := s.ctn.fol.closed, thisA := some x, thisB := some y, nextA := none, nextB := none
            offset := some (max 0 (min delay ((x - m).toInt - e))).toNat, unaligned := false
            step := t.ctn.fol.step, align := t.ctn.fol.align, holdover := t.ctn.fol.holdover }
        ∧ (e.natAbs ≤ 256 → t.ctn.next = m + BitVec.ofInt 32 (ticks + max (-8) (min 8 e)) ∧ t.ctn.fol.step = 0
            ∧ t.drive.step = s.drive.step ∧ t.panel.step = s.panel.step)
        ∧ (256 < e.natAbs → s.ctn.fol.step < 2 → t.ctn.next = m + BitVec.ofNat 32 ticks ∧ t.ctn.fol.step = s.ctn.fol.step + 1
            ∧ t.drive.step = s.drive.step ∧ t.panel.step = s.panel.step)
        ∧ (256 < e.natAbs → 2 ≤ s.ctn.fol.step → t.ctn.next = m + BitVec.ofInt 32 (e + ticks) ∧ t.ctn.fol.step = 0
            ∧ t.drive.step = true ∧ t.panel.step = true)
        ∧ (s.ctn.state = .joining →
            t.ctn.fol.align = (if e.natAbs ≤ 32 then min 8 (s.ctn.fol.align + 1) else 0) ∧ t.ctn.fol.holdover = s.ctn.fol.holdover
            ∧ (aligns → t.ctn.state = .aligned ∧ t.drive.pending.getLsbD 1 = true) ∧ (¬ aligns → t.ctn.state = .joining)
            ∧ t.reads = s.reads ∧ t.lu = s.lu ∧ t.tgu.stamps = s.tgu.stamps)
        ∧ (s.ctn.state ∈ [.aligned, .run] → t.drive.pending.getLsbD 0 = true ∧ t.reads = min 255 (s.reads + 1)
            ∧ (k ∈ s.ctn.fol.seen → t.ctn.state = s.ctn.state ∧ t.ctn.fol.align = s.ctn.fol.align
                ∧ t.ctn.fol.holdover = s.ctn.fol.holdover ∧ t.lu = s.lu ∧ t.drive.pending.getLsbD 2 = s.drive.pending.getLsbD 2))
        ∧ (missed → t.drive.pending.getLsbD 2 = true
            ∧ (¬ falls → t.ctn.state = s.ctn.state ∧ t.ctn.fol.holdover = h ∧ t.ctn.fol.align = s.ctn.fol.align
                ∧ t.tru.active.get 21 = decide (s.ctn.limits.holdover < h))
            ∧ (falls → t.ctn.state = .joining ∧ t.ctn.fol.align = 0 ∧ t.ctn.fol.holdover = 0 ∧ t.tru.active.get 21 = false
                ∧ t.drive.pending.getLsbD 1 = true ∧ t.pse.grant = none ∧ t.pse.offer = none
                ∧ ∀ i, (t.axe.published.get i).valid = false)
            ∧ (∀ z, s.lu.sample (k + 1) = some z → s.lu.sample (k + 2) = none →
                ∃ w, t.lu.sample (k + 2) = some w ∧ w.origin = .extrapolated ∧ w.p = z.p + BitVec.signExtend 48 z.v))
        ∧ t.fpf.a.lockErrors = 0 ∧ t.fpf.b.lockErrors = 0 ∧ t.cfe = s.cfe ∧ t.hold = none ∧ t.pending = s.pending)

/-- R42, R43, R44, R45: the timing close at the end of the arrival windows: the estimate from both copies or from one and the offset, the
error, the next boundary, the alignment count in JOINING, and UNALIGNED in ALIGNED and RUN. -/
def Obligations.TimingClosePlacesTheNextBoundary : Prop :=
  ∀ (s : State) (l : Word), s.hold = none → s.ctn.config.role = .follower → s.ctn.boundary = some l →
    s.ctn.fol.closed = none → s.ctn.state ∈ [.joining, .aligned, .run] →
    let ticks := s.ctn.fol.code * 15625
    let a := s.ctn.fol.offset.getD 0
    let delay : Int := s.ctn.fol.delay
    let lag (x : Word) : Int := (x - l).toInt
    let est : Option (Int × Nat) := match s.ctn.fol.thisA, s.ctn.fol.thisB, s.ctn.fol.offset with
      | some x, some y, _ =>
        some ((lag x + lag y - delay) / 2, (max 0 (min delay (lag x - (lag x + lag y - delay) / 2))).toNat)
      | some x, none, some a => some (lag x - a, a)
      | none, some y, some a => some (lag y - (delay - a), a)
      | _, _, _ => none
    let near : Prop := ∃ e o, est = some (e, o) ∧ e.natAbs ≤ 32
    ∃ t, exec .timingClose s = .next t
      ∧ t.tick = (s.reach (l + BitVec.ofNat 32 (max a (s.ctn.fol.delay - a) + s.ctn.limits.window))).tick
      ∧ t.ctn.fol.closed = some t.tick ∧ t.ctn.boundary = some l ∧ t.ctn.cycle = s.ctn.cycle ∧ t.ctn.plan = s.ctn.plan
      ∧ t.ctn.config = s.ctn.config
      ∧ (est = none → t.ctn.next = l + BitVec.ofNat 32 ticks ∧ t.ctn.fol.step = s.ctn.fol.step
          ∧ t.ctn.fol.offset = s.ctn.fol.offset ∧ t.drive.step = s.drive.step ∧ t.panel.step = s.panel.step
          ∧ (t.ctn.fol.unaligned = true ↔ s.ctn.fol.unaligned = true
              ∨ (s.ctn.state ∈ [.aligned, .run] ∧ s.ctn.cycle ∈ s.ctn.fol.seen)))
      ∧ (∀ e o, est = some (e, o) → t.ctn.fol.offset = some o ∧ t.ctn.fol.unaligned = false
          ∧ (e.natAbs ≤ 256 → t.ctn.next = l + BitVec.ofInt 32 (ticks + max (-8) (min 8 e)) ∧ t.ctn.fol.step = 0
              ∧ t.drive.step = s.drive.step ∧ t.panel.step = s.panel.step)
          ∧ (256 < e.natAbs → s.ctn.fol.step < 2 → t.ctn.next = l + BitVec.ofNat 32 ticks
              ∧ t.ctn.fol.step = s.ctn.fol.step + 1 ∧ t.drive.step = s.drive.step ∧ t.panel.step = s.panel.step)
          ∧ (256 < e.natAbs → 2 ≤ s.ctn.fol.step →
              t.ctn.next = l + BitVec.ofInt 32 (e + ticks) ∧ t.ctn.fol.step = 0 ∧ t.drive.step = true ∧ t.panel.step = true))
      ∧ (s.ctn.state = .joining →
          (near → t.ctn.fol.align = min 8 (s.ctn.fol.align + 1)) ∧ (¬ near → t.ctn.fol.align = 0)
          ∧ (near ∧ 7 ≤ s.ctn.fol.align ∧ s.ctn.config.address ∈ s.ctn.plan →
              t.ctn.state = .aligned ∧ t.drive.pending.getLsbD 1 = true)
          ∧ (¬ (near ∧ 7 ≤ s.ctn.fol.align ∧ s.ctn.config.address ∈ s.ctn.plan) → t.ctn.state = .joining))
      ∧ (s.ctn.state ∈ [.aligned, .run] → s.ctn.cycle ∈ s.ctn.fol.seen →
          t.ctn.state = s.ctn.state ∧ t.ctn.fol.align = s.ctn.fol.align)
      ∧ (s.ctn.state = .joining ∨ s.ctn.cycle ∈ s.ctn.fol.seen →
          t.ctn.fol.holdover = s.ctn.fol.holdover ∧ t.lu = s.lu ∧ t.drive.pending.getLsbD 2 = s.drive.pending.getLsbD 2)

/-- R40 to R43, R45, R74, R76: a timing close in ALIGNED or RUN of a cycle of which no data copy was taken; the expiry of the wait for the
other copy; the timing use of a data copy; a copy that comes after the timing close. The tick is the model's, log entry 2; that a
second copy still in reception at the expiry does not end the wait is the model's choice, log entry 114; that an acquired cycle counts as
closed is DEDUCED, log entry 16, how copies beyond the two of a wait are treated, log entry 65, that the grant
goes on the fall to JOINING, log entry 53, and which copies are late, log entry 49. That an out of step copy keeps the arrivals noted and
the timing close is the model's choice, log entry 78, and so is the cycle number of the in-step test, log entry 88. A follower above the
holdover limit in RUN falls at its next missed cycle in ALIGNED: DEDUCED, log entry 87; plan bytes beyond the plan count are not read:
DEDUCED, log entry 94. -/
def Obligations.MissedCyclesAndAcquisitionWaits : Prop :=
  (∀ (s : State) (l : Word), s.hold = none → s.ctn.config.role = .follower → s.ctn.boundary = some l →
      s.ctn.fol.closed = none → s.ctn.cycle ∉ s.ctn.fol.seen → s.ctn.state ∈ [.aligned, .run] →
      let h := min 255 (s.ctn.fol.holdover + 1)
      ∃ t, exec .timingClose s = .next t
        ∧ t.drive.pending.getLsbD 2 = true
        ∧ (¬ (s.ctn.state = .aligned ∧ s.ctn.limits.holdover < h) →
            t.ctn.state = s.ctn.state ∧ t.ctn.fol.holdover = h ∧ t.ctn.fol.align = s.ctn.fol.align
            ∧ t.tru.active.get 21 = decide (s.ctn.limits.holdover < h))
        ∧ (s.ctn.state = .aligned → s.ctn.limits.holdover < h →
            t.ctn.state = .joining ∧ t.ctn.fol.align = 0 ∧ t.ctn.fol.holdover = 0 ∧ t.tru.active.get 21 = false
            ∧ t.ctn.boundary = some l ∧ t.ctn.plan = s.ctn.plan ∧ t.drive.pending.getLsbD 1 = true
            ∧ t.pse.grant = none ∧ t.pse.offer = none ∧ ∀ i, (t.axe.published.get i).valid = false)
        ∧ (∀ x, s.lu.sample (s.ctn.cycle + 1) = some x → s.lu.sample (s.ctn.cycle + 2) = none →
            ∃ y, t.lu.sample (s.ctn.cycle + 2) = some y ∧ y.origin = .extrapolated ∧ y.p = x.p + BitVec.signExtend 48 x.v
            ∧ t.lu.jump = false))
  ∧ (∀ (s : State) (w : Acquisition), s.hold = none → s.ctn.config.role = .follower → s.ctn.fol.acquisition = some w →
      (s.ctn.fol.offset = none →
        ∃ t, exec .acquisitionWaitExpiry s = .next t
          ∧ t = { s with tick := t.tick, ctn := { s.ctn with
                fol := { s.ctn.fol with acquisition := none, waited := some w.cycle } } })
      ∧ (∀ a, s.ctn.fol.offset = some a →
        let l := w.arrival - (match w.copy with
          | .a => BitVec.ofNat 32 a
          | .b => BitVec.ofNat 32 s.ctn.fol.delay - BitVec.ofNat 32 a)
        ∃ t, exec .acquisitionWaitExpiry s = .next t
          ∧ t.tick = (s.reach w.deadline).tick
          ∧ t = { s with
              tick := t.tick
              ctn := { s.ctn with
                boundary := some l, next := l + BitVec.ofNat 32 (s.ctn.fol.code * 15625), cycle := w.cycle, window := .before
                fol := { s.ctn.fol with
                  align := 0, step := 0, closed := some t.tick, closedBefore := none, waited := none, acquisition := none
                  thisA := none, thisB := none, nextA := none, nextB := none } } }))
  ∧ (∀ (s : State) (p : FibrePort) (arrival : Word) (f : Frame) (c : CycleBody), s.hold = none →
      (s.fibre p).link = .locked → s.ctn.config.role = .follower → s.ctn.state ≠ .passive →
      f.wfOf Kind.cycle → f.body = .cycle c → c.coded f.length.toNat → ¬ f.restart →
      (s.ctn.fol.lineAddress = none ∨ s.ctn.fol.lineAddress = some f.source) →
      (∀ r, (s.fibre p).rx = some r → r.arrival = arrival ∧ r.conflict = false ∧ r.discarded = false) →
      (s.ctn.fol.closed = none → s.ctn.fol.thisA = none ∨ s.ctn.fol.thisB = none) →
      ¬ s.ctn.late c.cycle arrival →
      let fol := s.ctn.fol
      let ticks := c.code.toNat * 15625
      let a : Nat := fol.offset.getD 0
      let delay : Int := c.delay.toNat
      let inStep : Prop := ∀ l, s.ctn.boundary = some l → (c.cycle = s.ctn.cycle ∧ 0 ≤ (arrival - l).toInt)
        ∨ (c.cycle = s.ctn.cycle + 1 ∧ (arrival - s.ctn.next).toInt < 0)
      let times (x : Follower) := (x.offset, x.thisA, x.thisB, x.nextA, x.nextB)
      ∃ t, exec (.dataCopy p arrival f) s = .next t
        ∧ (f.wrapped ∨ ¬ inStep → t.ctn.boundary = s.ctn.boundary ∧ t.ctn.next = s.ctn.next ∧ times t.ctn.fol = times fol
            ∧ t.ctn.fol.closed = fol.closed ∧ t.ctn.fol.acquisition = fol.acquisition)
        ∧ (¬ f.wrapped → s.ctn.boundary = none →
            (fol.acquisition = none → fol.waited ≠ some c.cycle → t.ctn.boundary = none
              ∧ t.ctn.fol.acquisition = some ⟨c.cycle, p.other, arrival, arrival + BitVec.ofNat 32 ticks⟩)
            ∧ (fol.acquisition = none → fol.waited = some c.cycle → t.ctn.boundary = none ∧ t.ctn.fol.acquisition = none)
            ∧ (∀ w, fol.acquisition = some w → ¬ (w.cycle = c.cycle ∧ w.copy ≠ p.other) →
                t.ctn.boundary = none ∧ t.ctn.fol.acquisition = some w)
            ∧ (∀ w, fol.acquisition = some w → w.cycle = c.cycle → w.copy ≠ p.other →
                let tA := if p.other = .a then arrival else w.arrival
                let tB := if p.other = .a then w.arrival else arrival
                let off : Int := ((tB - tA).toInt - delay) / 2
                let l := tA + BitVec.ofInt 32 off
                t.ctn.boundary = some l ∧ t.ctn.next = l + BitVec.ofNat 32 ticks ∧ t.ctn.cycle = c.cycle
                ∧ t.ctn.fol.offset = some (max 0 (min delay (-off))).toNat ∧ t.ctn.fol.align = 0 ∧ t.ctn.fol.step = 0
                ∧ t.ctn.fol.acquisition = none))
        ∧ (∀ l, ¬ f.wrapped → s.ctn.boundary = some l → inStep →
            let now : Prop := c.cycle = s.ctn.cycle
            let due : Int := if p.other = .a then (a : Int) else delay - a
            let late : Int := (arrival - (if now then l else s.ctn.next)).toInt - due
            t.ctn.boundary = some l ∧ t.ctn.cycle = s.ctn.cycle
            ∧ (s.ctn.limits.window < late.natAbs → t.drive.cycleJitter = true ∧ t.panel.cycleJitter = true
                ∧ t.ctn.next = s.ctn.next ∧ times t.ctn.fol = times fol ∧ t.ctn.fol.closed = fol.closed)
            ∧ (late.natAbs ≤ s.ctn.limits.window →
                let thisA := if now ∧ p.other = .a then some arrival else fol.thisA
                let thisB := if now ∧ p.other = .b then some arrival else fol.thisB
                t.drive.cycleJitter = s.drive.cycleJitter
                ∧ t.ctn.fol.thisA = thisA ∧ t.ctn.fol.thisB = thisB
                ∧ t.ctn.fol.nextA = (if ¬ now ∧ p.other = .a then some arrival else fol.nextA)
                ∧ t.ctn.fol.nextB = (if ¬ now ∧ p.other = .b then some arrival else fol.nextB)
                ∧ (fol.closed ≠ none ∨ thisA = none ∨ thisB = none →
                    t.ctn.fol.closed = fol.closed ∧ t.ctn.next = s.ctn.next ∧ t.ctn.fol.offset = fol.offset)
                ∧ (∀ x y, fol.closed = none → thisA = some x → thisB = some y →
                    let e : Int := ((x - l).toInt + (y - l).toInt - delay) / 2
                    t.ctn.fol.closed = some t.tick ∧ t.ctn.fol.unaligned = false
                    ∧ t.ctn.fol.offset = some (max 0 (min delay ((x - l).toInt - e))).toNat
                    ∧ (e.natAbs ≤ 256 → t.ctn.next = l + BitVec.ofInt 32 (ticks + max (-8) (min 8 e)) ∧ t.ctn.fol.step = 0)))))
  ∧ (∀ (s : State) (p : FibrePort) (arrival : Word) (f : Frame) (c : CycleBody), s.hold = none →
      (s.fibre p).link = .locked → s.ctn.config.role = .follower → s.ctn.state ≠ .passive →
      f.wfOf Kind.cycle → f.body = .cycle c → c.coded f.length.toNat → ¬ f.restart → s.ctn.boundary ≠ none →
      (s.ctn.fol.lineAddress = none ∨ s.ctn.fol.lineAddress = some f.source) →
      (∀ r, (s.fibre p).rx = some r → r.arrival = arrival ∧ r.conflict = false ∧ r.write = none ∧ r.discarded = false) →
      ((c.cycle = s.ctn.cycle ∧ ∃ x, s.ctn.fol.closed = some x ∧ 0 < (arrival - x).toInt)
        ∨ (c.cycle = s.ctn.cycle - 1 ∧ ∃ x, s.ctn.fol.closedBefore = some x ∧ 0 < (arrival - x).toInt)) →
      ∃ t, exec (.dataCopy p arrival f) s = .next t ∧ (t.fibre p).rx = none
        ∧ t = { s with
            tick := (s.reach (arrival + BitVec.ofNat 32 ((f.length.toNat + 8 + 1) / 2))).tick
            fpf := { s.fpf with a := t.fpf.a, b := t.fpf.b }
            ctn := { s.ctn with fol := { s.ctn.fol with lineAddress := some f.source } }
            pse := t.pse
            teu := { s.teu with out := t.teu.out, broadcast := t.teu.broadcast, firstDue := t.teu.firstDue }
            drive := { s.drive with cycleJitter := true }, panel := { s.panel with cycleJitter := true } })

/-- R6, R10, R13, R49 to R54, R63, R154, R165, R169: the header of an unwrapped cycle frame copy at a follower of its plan in ALIGNED or RUN,
and the good close that makes the write the header staged or finds the address conflict. The copy leaves by the other port, or turned
back by its own when that one is down, and goes before a less urgent frame presented at the same instant (`v` is the state once that one
has given way, log entry 75); `unsent` are the remaining bytes of a class of strips on the fibre, `backlog` those of the tile
frames; EVENT_ROOM is bit 10. That nothing else of a conflicting copy is taken is DEDUCED, log entry 17, and that the
events carried are forgotten on entry into PASSIVE, log entry 86. What becomes of an own TRIP frame presented at the instant of that entry
is the model's choice, log entry 113, and so is what a made write takes from the queue after the first one of another cycle, log entry
119. The tick is the model's, log entry 2. -/
def Obligations.SectionsAreWrittenInPassing : Prop :=
  (∀ (s : State) (p : FibrePort) (arrival : Word) (f : Frame) (c : CycleBody) (i : Nat) (x : Section), s.hold = none →
      (s.fibre p).link = .locked → s.ctn.config.role = .follower → s.ctn.state ∈ [.aligned, .run] →
      f.wfOf Kind.cycle → f.body = .cycle c →
      (f.source ≠ s.ctn.config.address ∨ x.written = true) → f.dest = 0xFF →
      s.ctn.config.address.toNat ≤ 48 → s.ctn.fol.lineAddress = some f.source → ¬ f.wrapped → ¬ f.restart →
      c.addresses.idxOf? s.ctn.config.address = some i → c.sections[i]? = some x →
      (s.teu.eventsFor c.cycle).length ≤ 2 →
      let q := if (s.fibre p.other).link = .locked then p.other else p
      let free := (s.fibre q).tx = none ∧ (s.fibre q).waiting = []
      let taken : Bool := (s.fibre q).tx.any fun y => y.presented == some (s.reach (arrival + 3)).tick && decide (2 < y.out.cls)
      let v := if taken = true then s.giveWay q else s
      (free ∨ (taken = false ∧ (s.fibre q).fifoUsed + f.size ≤ 8192)
        ∨ (taken = true ∧ ∀ y, (s.fibre q).tx = some y → y.out.cls = 3 →
            y.fifoBytes = 0 ∧ (s.fibre q).fifoUsed + y.out.frame.size ≤ 8192)) →
      let flags := if q = p then f.flags ||| 0x80 else f.flags
      let own := s.ctn.config.address
      let console := s.ctn.fol.console
      let units (n : Nat) : Half := BitVec.ofNat 16 (min 65535 ((n + 63) / 64))
      let unsent (pr : Priority) : Nat := (v.pse.order.map fun h => match (v.pse.descriptors.get h).strip with
        | some z => if z.priority = pr then z.data.length - z.sent + 40 * ((z.data.length - z.sent + 1023) / 1024) else 0
        | none => 0).sum
      let demand (pr : Priority) : Half :=
        if console ≠ 0 ∧ console ≠ own ∧ s.routeTo console ≠ .none then units (unsent pr) else 0
      let frames (e : OutTile) : Nat := if e.dest ≠ 0xFF then 1 else match e.row with
        | some r => if r.two then 2 else 1
        | none => if s.ctn.breakIx = some .intact then 1 else 2
      let backlog : Nat := (v.teu.out.map fun e =>
        if e.dest ≠ 0xFF ∧ s.routeTo e.dest = .none then 0 else (frames e - e.started) * (e.data.length + 40)).sum
      ∃ t o r, exec (.frameHeaderReceived p arrival (some f)) s = .next t
        ∧ o.origin = .transit ∧ o.incoming = some p ∧ o.stomped = false ∧ o.bytes = f.size
        ∧ (free → ∃ y, (t.fibre q).tx = some y ∧ y.out = o ∧ y.start = arrival + 96 ∧ (t.fibre q).waiting = [])
        ∧ (taken = true → ∃ y, (t.fibre q).tx = some y ∧ y.out = o ∧ y.start = arrival + 96
            ∧ (t.fibre q).waiting = (v.fibre q).waiting)
        ∧ (¬ free → taken = false → (t.fibre q).tx = (s.fibre q).tx ∧ (t.fibre q).waiting = (s.fibre q).waiting ++ [o] ∧ o.due = arrival + 96)
        ∧ (t.fibre p).rx = some r ∧ r.arrival = arrival
        ∧ (x.written = true → o.frame = { f with flags := flags } ∧ r.write = none ∧ r.conflict = true)
        ∧ (x.written = false → ∃ w, r.write = some w ∧ r.conflict = false ∧ w.cycle = c.cycle
            ∧ o.frame = { f with flags := flags, body := .cycle { c with sections := c.sections.set i w.sec } }
            ∧ w.sec.written = true ∧ w.sec.address = own
            ∧ w.sec.flags.getLsbD 1 = decide (s.drive.tr.state = .parameters ∧ s.drive.tr.command = some 0x2E
                ∧ s.drive.tr.denied = false)
            ∧ w.sec.tripClass = BitVec.ofNat 8 s.tru.summaryClass ∧ w.sec.tripZones = s.tru.summaryZones
            ∧ w.sec.tripCause = s.tru.summaryCause ∧ w.sec.tripSeq = s.tru.seq
            ∧ w.sec.errA = BitVec.ofNat 8 s.fpf.a.published ∧ w.sec.errB = BitVec.ofNat 8 s.fpf.b.published
            ∧ w.sec.tileDemand = (if console ≠ 0 ∧ console = own then units backlog else 0)
            ∧ w.sec.alertDemand = demand .alert ∧ w.sec.normalDemand = demand .normal
            ∧ w.sec.repaint = s.teu.repaint ∧ w.sec.words = s.cfe.words
            ∧ (∀ j : Fin 8, w.sec.axisRun.getLsbD j.val = (s.axe.published.get j).valid)
            ∧ w.sec.flags.getLsbD 2 = true ∧ w.sec.flags.getLsbD 3 = (s.ctn.state == .run)
            ∧ w.sec.flags.getLsbD 4 = decide (0 < s.ctn.fol.holdover) ∧ w.sec.flags.getLsbD 5 = s.ctn.fol.unaligned
            ∧ (∀ a, s.ctn.fol.offset = some a → w.sec.linkOffset = BitVec.ofNat 16 (min 65535 a))
            ∧ (s.ctn.fol.offset = none → w.sec.linkOffset = 0xFFFF)
            ∧ w.carried = s.teu.eventsFor c.cycle ∧ w.sec.events = w.carried)
        ∧ t = { v with tick := t.tick, fpf := { s.fpf with a := t.fpf.a, b := t.fpf.b } })
  ∧ (∀ (s : State) (p : FibrePort) (arrival : Word) (f : Frame) (c : CycleBody) (r : Reception), s.hold = none →
      (s.fibre p).link = .locked → s.ctn.config.role = .follower → s.ctn.state ≠ .passive →
      f.wfOf Kind.cycle → f.body = .cycle c → (s.fibre p).rx = some r → r.discarded = false →
      let shut (o : OutFrame) : OutFrame := if o.incoming = some p then { o with incoming := none, crc := none } else o
      (∀ w, r.write = some w → r.conflict = false →
        ∃ t, exec (.dataCopy p arrival f) s = .next t ∧ t.cfe.own = some (w.sec, w.cycle)
          ∧ (f.restart = false → s.ctn.config.address ∈ c.addresses →
              ∀ i, addressIndex s.ctn.config.address = some i → t.cfe.table.get i = some ⟨w.sec, w.cycle, false⟩)
          ∧ (f.restart = false → w.cycle = c.cycle → ¬ (s.teu.carried.any fun x => x.1 == w.cycle) →
              t.teu.carried.map Prod.fst = some w.cycle ∧ t.teu.events = s.teu.events.drop w.carried.length
              ∧ (16 ≤ s.teu.events.length → w.carried ≠ [] → t.panel.pending.getLsbD 10 = true))
          ∧ (f.restart = false → w.cycle = c.cycle → (s.teu.carried.any fun x => x.1 == w.cycle) →
              t.teu.carried = s.teu.carried ∧ t.teu.events = s.teu.events
              ∧ t.panel.pending.getLsbD 10 = s.panel.pending.getLsbD 10))
      ∧ (r.conflict = true → r.write = none →
        ∃ t, exec (.dataCopy p arrival f) s = .next t
          ∧ t.ctn.state = .passive ∧ t.drive.pending.getLsbD 5 = true ∧ t.drive.pending.getLsbD 1 = true
          ∧ t.ctn.plan = [] ∧ t.ctn.boundary = none ∧ t.ctn.fol.lineAddress = none ∧ t.lu.window = []
          ∧ t.teu.carried = none ∧ t.cfe = s.cfe ∧ t.ctn.config = s.ctn.config
          ∧ ∀ q, ({ s.fibre q with
              tx := (s.fibre q).tx.map fun y => { y with out := shut y.out }
              waiting := (s.fibre q).waiting.map shut } : Fibre).OwnDiscarded (t.fibre q) t.tick))

/-- R40, R45, R55 to R57, R73, R117, R150, R166, R168 to R170, R185: what a follower takes from a data copy at its good close, and a data
copy at a node that is, becomes or ceases to be the console (REPAINT is bit 11). That ceasing to be it empties queue and table is the
model's choice, log entry 36, and so is the handle order in which strips are dealt with, log entry 43. That a strip with a pending CANCEL
stays is DEDUCED, log entry 70, and how the first copy of a cycle is told, log entry 27; a copy after the timing close (log entry 49) is
not this one. That a new grant replaces the one in hand is the model's choice, log entry 100, and so is that the made write comes before
the header and sections of its copy, log entry 103, and the plan order in which the sections go to the console, log entry 116. An own
FRAGMENT or TILE frame that started at this very tick may give way to a TRIP frame, log entry 75.
The cycle number of the in-step test is the model's choice, log entry 88; that plan bytes beyond the plan count are not read is DEDUCED,
log entry 94. The last part is the copies that are used for nothing: those of another source than the line node held, and those with a
field outside their coding, RESTART or not (log entry 81). -/
def Obligations.DataCopyHandsOverHeaderSectionsAndSample : Prop :=
  (∀ (s : State) (p : FibrePort) (arrival : Word) (f : Frame) (c : CycleBody), s.hold = none →
      (s.fibre p).link = .locked → s.ctn.config.role = .follower → s.ctn.state ≠ .passive →
      f.wfOf Kind.cycle → f.body = .cycle c → c.coded f.length.toNat → ¬ f.restart →
      (s.ctn.fol.lineAddress = none ∨ s.ctn.fol.lineAddress = some f.source) →
      (∀ r, (s.fibre p).rx = some r → r.arrival = arrival ∧ r.conflict = false ∧ r.discarded = false) →
      (s.ctn.fol.closed = none → s.ctn.fol.thisA = none ∨ s.ctn.fol.thisB = none) →
      ¬ s.ctn.late c.cycle arrival →
      let mine := (c.grants.take c.grantCount.toNat).find? fun e => e.node == s.ctn.config.address
      let parts (g : Option Grant) := g.map fun x => (x.cycle, x.tile, x.strip)
      ∃ t, exec (.dataCopy p arrival f) s = .next t
        ∧ t.ctn.plan = c.addresses ∧ t.ctn.breakIx = some (breakOf c.breakIx)
        ∧ (s.ctn.plan ≠ c.addresses ∨ s.ctn.breakIx ≠ some (breakOf c.breakIx) →
            t.fpf.routes = routesOf c.addresses (some (breakOf c.breakIx)) s.ctn.config.address)
        ∧ t.ctn.fol.delay = c.delay.toNat ∧ t.ctn.fol.code = c.code.toNat ∧ t.ctn.fol.superLen = c.superLen.toNat
        ∧ t.ctn.fol.console = c.console ∧ t.ctn.fol.lineZones = c.lineZones ∧ t.ctn.fol.rotating = c.rotating
        ∧ t.ctn.fol.lineAddress = some f.source ∧ c.cycle ∈ t.ctn.fol.seen
        ∧ (c.cycle ∉ s.ctn.fol.seen → t.ctn.fol.holdover = 0)
        ∧ (¬ s.StartsAt t.tick → c.cycle ∉ s.ctn.fol.seen → ∀ e, mine = some e → ∃ g, t.pse.grant = some g ∧ g.cycle = c.cycle
            ∧ g.tile ≤ 64 * e.tile.toNat ∧ g.strip ≤ 64 * e.strip.toNat
            ∧ (t.ctn.window ≠ .inside → g.tile = 64 * e.tile.toNat ∧ g.strip = 64 * e.strip.toNat))
        ∧ (¬ s.StartsAt t.tick → c.cycle ∈ s.ctn.fol.seen ∨ mine = none → t.ctn.window ≠ .inside → parts t.pse.grant = parts s.pse.grant)
        ∧ (∀ i x, x ∈ c.sections → addressIndex x.address = some i → x.written → x.address ≠ s.ctn.config.address →
            x.address ∈ c.addresses → (c.sections.map Section.address).Nodup →
            let y := if 2 < x.eventCount.toNat then { x with eventCount := 2 } else x
            t.cfe.table.get i = (match s.cfe.table.get i with
              | none => some ⟨y, c.cycle, false⟩
              | some e => if e.carried ∨ 0 ≤ (c.cycle - e.cycle).toInt then some ⟨y, c.cycle, false⟩ else some e)
            ∧ t.tru.remote.get i = (if (s.cfe.table.get i).all (fun e => e.carried || decide (0 ≤ (c.cycle - e.cycle).toInt)) = true then
                takeTripSection (s.tru.remote.get i) x c.cycle else s.tru.remote.get i))
        ∧ (∀ i, (∀ x ∈ c.sections, x.written → x.address ≠ indexAddress i ∨ x.address = s.ctn.config.address) →
            (s.ctn.plan = c.addresses ∨ indexAddress i ∈ c.addresses) → t.tru.remote.get i = s.tru.remote.get i)
        ∧ (s.ctn.plan ≠ c.addresses → ∀ i, indexAddress i ∉ c.addresses →
            (∀ x ∈ c.sections, x.address ≠ indexAddress i) → t.cfe.table.get i = none ∧ t.tru.remote.get i = none)
        ∧ (∀ y, s.lu.sample c.sampleBoundary = some y → t.lu.sample c.sampleBoundary = some y)
        ∧ (s.lu.sample c.sampleBoundary = none → ∃ y, t.lu.sample c.sampleBoundary = some y
            ∧ y.p = c.sampleP ∧ y.v = c.sampleV ∧ y.state.code = c.lineState ∧ y.origin = .received)
        ∧ (∀ l, s.ctn.boundary = some l →
            ¬ ((c.cycle = s.ctn.cycle ∧ 0 ≤ (arrival - l).toInt)
                ∨ (c.cycle = s.ctn.cycle + 1 ∧ (arrival - s.ctn.next).toInt < 0)) →
            t.ctn.cycle = c.cycle ∧ t.drive.cycleJump = true ∧ t.panel.cycleJump = true)
        ∧ t.ctn.config = s.ctn.config ∧ t.ctn.limits = s.ctn.limits ∧ t.cfe.words = s.cfe.words
        ∧ ((∀ r, (s.fibre p).rx = some r → r.write = none) → t.cfe.own = s.cfe.own))
  ∧ (∀ (s : State) (p : FibrePort) (arrival : Word) (f : Frame) (c : CycleBody), s.hold = none →
      (s.fibre p).link = .locked → s.ctn.config.role = .follower → s.ctn.state ≠ .passive →
      f.wfOf Kind.cycle → f.body = .cycle c → c.coded f.length.toNat → ¬ f.restart →
      (s.ctn.fol.lineAddress = none ∨ s.ctn.fol.lineAddress = some f.source) →
      (∀ r, (s.fibre p).rx = some r → r.arrival = arrival ∧ r.conflict = false ∧ r.discarded = false) →
      ¬ s.ctn.late c.cycle arrival →
      let own := s.ctn.config.address
      let staged := (s.fibre p).rx.bind Reception.write
      let events (a : Byte) (k : Word) (es : List EventSlot) : List ConsoleEvent :=
        (es.filter fun e => decide (1 ≤ e.kind.toNat ∧ e.kind.toNat ≤ 3)).map fun e => ⟨a, e, k⟩
      let ownEvents : List ConsoleEvent := match staged with
        | some w => if s.isConsole = false ∨ (s.teu.carried.any fun x => x.1 == w.cycle) = true then [] else events own w.cycle w.carried
        | none => []
      let fresh (x : Section) : Bool := x.written && x.address != own && match addressIndex x.address with
        | some i => (match s.cfe.table.get i with
          | some e => e.carried || decide (0 < (c.cycle - e.cycle).toInt)
          | none => true)
        | none => false
      let arrivals := s.teu.console ++ ownEvents ++ (c.sections.filter fresh).flatMap fun x =>
        events x.address c.cycle ([x.event1, x.event2].take x.eventCount.toNat)
      let ordered : Prop := (c.sections.map Section.address).Nodup ∧ ∀ x ∈ c.sections, x.address ∈ c.addresses
      ∃ t, exec (.dataCopy p arrival f) s = .next t
        ∧ (t.isConsole = true ↔ c.console = own ∧ c.console ≠ 0)
        ∧ (s.isConsole = false → t.isConsole = true → ¬ s.StartsAt t.tick → s.StripsStayHere t)
        ∧ (s.isConsole = true → t.isConsole = false →
            t.teu.console = [] ∧ t.teu.lost = false ∧ ∀ i, t.teu.repaints.get i = none)
        ∧ (s.isConsole = false → t.isConsole = false → t.teu.console = s.teu.console ∧ t.teu.lost = s.teu.lost)
        ∧ (s.ctn.fol.console ≠ c.console → t.teu.lastBroadcast = none)
        ∧ (s.ctn.fol.console = c.console → t.teu.lastBroadcast = s.teu.lastBroadcast)
        ∧ (t.isConsole = true → s.teu.console.length ≤ 64 → ordered →
            t.teu.console = arrivals.take 64
            ∧ (t.teu.lost = true ↔ s.teu.lost = true ∨ 64 < arrivals.length)
            ∧ (∀ x i, x ∈ c.sections → addressIndex x.address = some i → x.address ≠ own →
                (fresh x = true → t.teu.repaints.get i = some ⟨x.repaint, c.cycle⟩
                  ∧ (x.repaint &&& ~~~((s.teu.repaints.get i).map RepaintEntry.mask).getD 0 ≠ 0 →
                      t.panel.pending.getLsbD 11 = true))
                ∧ (fresh x = false → t.teu.repaints.get i = s.teu.repaints.get i))))
  ∧ (∀ (s : State) (p : FibrePort) (arrival : Word) (f : Frame) (c : CycleBody), s.hold = none →
      (s.fibre p).link = .locked → s.ctn.config.role = .follower → s.ctn.state ≠ .passive →
      f.wfOf Kind.cycle → f.body = .cycle c →
      (¬ c.coded f.length.toNat ∨ ∃ a, s.ctn.fol.lineAddress = some a ∧ a ≠ f.source) →
      (∀ r, (s.fibre p).rx = some r → r.arrival = arrival ∧ r.conflict = false ∧ r.discarded = false) →
      let offers (t : State) : Prop := t = { s with
        tick := (s.reach (arrival + BitVec.ofNat 32 ((f.length.toNat + 8 + 1) / 2))).tick
        fpf := { s.fpf with a := t.fpf.a, b := t.fpf.b }, cfe := t.cfe, pse := t.pse, teu := t.teu, panel := t.panel }
      ∃ t, exec (.dataCopy p arrival f) s = .next t ∧ (t.fibre p).rx = none ∧ offers t
        ∧ ((∀ r, (s.fibre p).rx = some r → r.write = none) → t.cfe = s.cfe ∧ t.panel = s.panel
            ∧ t.teu = { s.teu with out := t.teu.out, broadcast := t.teu.broadcast, firstDue := t.teu.firstDue })
        ∧ (∀ r w, (s.fibre p).rx = some r → r.write = some w → t.cfe.own = some (w.sec, w.cycle)
            ∧ ∀ i, addressIndex s.ctn.config.address ≠ some i → t.cfe.table.get i = s.cfe.table.get i))

/-- R36, R57, R64, R65, R118, R161: a RESTART copy; the second copy of it causes nothing further (log entry 35). That FIRST is no longer
due is DEDUCED from the table of R171, log entry 50. That the events carried are forgotten is DEDUCED, log entry 86, and that plan bytes
beyond the plan count are not read, log entry 94. -/
def Obligations.RestartCopySendsAFollowerToJoining : Prop :=
  ∀ (s : State) (p : FibrePort) (arrival : Word) (f : Frame) (c : CycleBody), s.hold = none →
    (s.fibre p).link = .locked → s.ctn.config.role = .follower → s.ctn.state ≠ .passive →
    f.wfOf Kind.cycle → f.body = .cycle c → c.coded f.length.toNat → f.restart →
    (∀ r, (s.fibre p).rx = some r → r.write = none ∧ r.conflict = false ∧ r.discarded = false) →
    ((s.ctn.fol.lineAddress = none ∨ s.ctn.fol.lineAddress = some f.source) →
      s.ctn.fol.restart ≠ some (f.source, c.cycle) →
      ∃ t, exec (.dataCopy p arrival f) s = .next t
        ∧ t.ctn.state = .joining ∧ t.ctn.boundary = none ∧ t.ctn.plan = [] ∧ t.ctn.breakIx = none
        ∧ t.ctn.fol.lineAddress = none ∧ t.ctn.fol.align = 0 ∧ t.ctn.fol.step = 0 ∧ t.ctn.fol.holdover = 0
        ∧ t.ctn.fol.unaligned = false ∧ t.ctn.fol.offset = s.ctn.fol.offset ∧ t.ctn.cycle = s.ctn.cycle
        ∧ t.ctn.fol.delay = s.ctn.fol.delay ∧ t.ctn.config = s.ctn.config ∧ t.ctn.limits = s.ctn.limits
        ∧ t.lu.window = [] ∧ t.lu.jump = false ∧ t.fpf.routes = s.fpf.routes ∧ t.cfe.own = s.cfe.own
        ∧ (∀ i e, s.cfe.table.get i = some e → t.cfe.table.get i = some { e with carried := true })
        ∧ (∀ i r, s.tru.remote.get i = some r → t.tru.remote.get i = some { r with carried := true })
        ∧ s.StoreRestarts t ∧ t.teu.carried = none ∧ t.teu.firstDue = false
        ∧ t.teu.out = s.teu.out.map (fun e => { e with row := e.row.map fun r => { r with first := false } })
        ∧ (s.ctn.state ≠ .joining → t.drive.pending.getLsbD 1 = true)
        ∧ (s.ctn.state ∈ [.aligned, .run] → ∀ i, (t.axe.published.get i).valid = false))
    ∧ (s.ctn.fol.restart = some (f.source, c.cycle) ∨ (∃ a, s.ctn.fol.lineAddress = some a ∧ a ≠ f.source) →
      ∃ t, exec (.dataCopy p arrival f) s = .next t
        ∧ t = { s with
            tick := t.tick
            fpf := { s.fpf with a := t.fpf.a, b := t.fpf.b }
            pse := t.pse
            teu := { s.teu with out := t.teu.out, broadcast := t.teu.broadcast, firstDue := t.teu.firstDue } })

/-- R60, R59, R117, R168, R170, R185, R48: the break index and the section table that the merge at a line node's boundary leaves, and what the console
takes of it. `A` and `B` are the kept copies of the cycle; `wA` and `wB` are what is WRITTEN in them, `sA` and `sB` the sections that they
supply, none from one with a field outside its coding (DEDUCED, log entry 47). That the console takes them in plan order is the model's
choice, log entry 116. REPAINT is bit 11. -/
def Obligations.MergeFindsTheBreakAndTakesTheACopyFirst : Prop :=
  ∀ (s : State) (l : Word), s.hold = none → s.ctn.config.role = .line → s.ctn.state ∈ [.aligned, .run] →
    s.ctn.boundary = some l → s.ctn.line.restartAsked = false → s.ctn.plan.Nodup →
    let own := s.ctn.config.address
    let keptA := s.ctn.line.keptA
    let keptB := s.ctn.line.keptB
    let wA (j : Nat) := keptA.bind fun k => (k.body.sections[j]?).filter Section.written
    let wB (j : Nat) := keptB.bind fun k => (k.body.sections[j]?).filter Section.written
    let sA (j : Nat) := if keptA.any KeptCopy.coded then wA j else none
    let sB (j : Nat) := if keptB.any KeptCopy.coded then wB j else none
    let taken (x : Section) : Section := if 2 < x.eventCount.toNat then { x with eventCount := 2 } else x
    let events (a : Byte) (k : Word) (es : List EventSlot) : List ConsoleEvent :=
      (es.filter fun e => decide (1 ≤ e.kind.toNat ∧ e.kind.toNat ≤ 3)).map fun e => ⟨a, e, k⟩
    let merged (a : Byte) (j : Nat) : Option Section :=
      if a = own ∨ addressIndex a = none then none else (sA j).or (sB j)
    let arrivals := s.teu.console
      ++ (s.ctn.plan.zipIdx.flatMap fun y => match merged y.1 y.2 with
        | some x => events y.1 s.ctn.cycle ([x.event1, x.event2].take x.eventCount.toNat)
        | none => [])
      ++ (if (s.teu.carried.any fun x => x.1 == s.ctn.cycle + 1) = true then [] else events own (s.ctn.cycle + 1) (s.teu.events.take 2))
    ∃ t, exec .lineNodeBoundary s = .next t
      ∧ (∀ a, keptA = some a → a.wraps = 0 → t.ctn.breakIx = some .intact)
      ∧ (∀ a k, keptA = some a → a.wraps ≠ 0 → k < s.ctn.plan.length → (wA k).isSome →
          (∀ j < s.ctn.plan.length, k < j → wA j = none) → t.ctn.breakIx = some (.after k))
      ∧ (∀ b, keptA = none → keptB = some b → b.wraps = 0 → t.ctn.breakIx = some .intact)
      ∧ (∀ b k, keptA = none → keptB = some b → b.wraps ≠ 0 → 0 < k → k < s.ctn.plan.length → (wB k).isSome →
          (∀ j, 0 < j → j < k → wB j = none) → t.ctn.breakIx = some (.after (k - 1)))
      ∧ (∀ b, keptA = none → keptB = some b → b.wraps ≠ 0 → (∀ j, 0 < j → j < s.ctn.plan.length → wB j = none) →
          t.ctn.breakIx = some (.after (s.ctn.plan.length - 1)))
      ∧ (keptA = none → keptB = none → t.ctn.breakIx = some .opened)
      ∧ (t.ctn.breakIx ≠ s.ctn.breakIx →
          t.drive.pending.getLsbD 3 = true ∧ t.fpf.routes = routesOf s.ctn.plan t.ctn.breakIx s.ctn.config.address)
      ∧ (∀ j a i, s.ctn.plan[j]? = some a → a ≠ s.ctn.config.address → addressIndex a = some i →
          t.cfe.table.get i = (match sA j, sB j with
            | some x, _ => some ⟨taken x, s.ctn.cycle, false⟩
            | none, some x => some ⟨taken x, s.ctn.cycle, false⟩
            | none, none => s.cfe.table.get i)
          ∧ t.tru.remote.get i = (match (sA j).or (sB j) with
            | some x => takeTripSection (s.tru.remote.get i) x s.ctn.cycle
            | none => s.tru.remote.get i))
      ∧ (∀ i, indexAddress i ∉ s.ctn.plan → indexAddress i ≠ s.ctn.config.address →
          t.cfe.table.get i = s.cfe.table.get i ∧ t.tru.remote.get i = s.tru.remote.get i)
      ∧ (s.isConsole = false → t.teu.console = s.teu.console ∧ t.teu.lost = s.teu.lost ∧ t.teu.repaints = s.teu.repaints)
      ∧ (s.isConsole = true → s.teu.console.length ≤ 64 →
          t.teu.console = arrivals.take 64 ∧ (t.teu.lost = true ↔ s.teu.lost = true ∨ 64 < arrivals.length)
          ∧ (∀ j a i x, s.ctn.plan[j]? = some a → addressIndex a = some i → merged a j = some x →
              t.teu.repaints.get i = some ⟨x.repaint, s.ctn.cycle⟩
              ∧ (x.repaint &&& ~~~((s.teu.repaints.get i).map RepaintEntry.mask).getD 0 ≠ 0 →
                  t.panel.pending.getLsbD 11 = true)))

/-- R37, R67, R69 to R71: Set Line Speed, and the sample that each boundary of a line node generates. The line trip class is the one of the
trips known once the cycle that ends is merged. -/
def Obligations.LineTargetAndGeneration : Prop :=
  (∀ (s : State) (p : SerialPort) (speed : Word), s.Arrives p 0x25 →
      let taken := s.ctn.config.role = .line ∧ s.ctn.state ∈ [.aligned, .run] ∧ s.lineState ≠ some .tripRamp
        ∧ s.lineState ≠ some .tripHold ∧ s.lineClass = 0 ∧ s.lu.restartPending = false
      let v : Int := if speed.toInt < -(s.lu.limits.vRev : Int) then -(s.lu.limits.vRev : Int)
        else if (s.lu.limits.vMax : Int) < speed.toInt then s.lu.limits.vMax else speed.toInt
      (¬ taken → exec (.setLineSpeed p speed) s = .next (s.respond p 0x25 .notNow []))
      ∧ (taken → exec (.setLineSpeed p speed) s = .next
          (({ s with lu := { s.lu with target := v } }).respond p 0x25 (if v = speed.toInt then .ok else .clamped)
            (signedBytes 4 v))))
  ∧ (∀ (s : State) (l : Word) (x : Sample), s.hold = none → s.ctn.config.role = .line → s.ctn.state ∈ [.aligned, .run] →
      s.ctn.boundary = some l → s.ctn.line.restartAsked = false → s.lu.latest = some x →
      s.lu.sample (x.boundary + 1) = none →
      let cls := ((s.reach s.ctn.next).mergedAtBoundary).lineClass
      ∃ t y, exec .lineNodeBoundary s = .next t ∧ cls ≤ 2
        ∧ t.lu.target = (if cls = 0 then s.lu.target else 0)
        ∧ y = generatedSample s.lu.limits cls t.lu.target x
        ∧ t.lu.latest = some y ∧ t.lu.seed = y.p ∧ t.lu.limits = s.lu.limits
        ∧ (∀ z ∈ t.lu.window, z = y ∨ (z ∈ s.lu.window ∧ (z.boundary = y.boundary - 1 ∨ z.boundary = y.boundary - 2))))

/-- R69, R70, R71: the sample generated from a sample, and the law that successive generated samples obey. `cls` is the line trip
class, `target` V* as this generation leaves it. -/
def Obligations.GeneratedSamplesObeyTheLineLaw : Prop :=
  ∀ (l : LineLimits) (cls : Nat) (target : Int) (x : Sample), cls ≤ 2 → (cls ≠ 0 → target = 0) →
    l.vMax < 2 ^ 31 → l.vRev < 2 ^ 31 → -(l.vRev : Int) ≤ target → target ≤ l.vMax →
    -(l.vRev : Int) ≤ x.v.toInt → x.v.toInt ≤ l.vMax →
    let y := generatedSample l cls target x
    let goal : Int := if (0 < x.v.toInt ∧ target < 0) ∨ (x.v.toInt < 0 ∧ 0 < target) then 0 else target
    let limit : Nat := if cls = 2 then l.aTrip else if x.v.toInt.natAbs < goal.natAbs then l.aUp else l.aDn
    y.boundary = x.boundary + 1 ∧ y.p = x.p + BitVec.signExtend 48 y.v ∧ y.origin = .generated ∧ y.feed = true
    ∧ (cls = 1 → y.v = 0)
    ∧ (cls ≠ 1 → (y.v.toInt - x.v.toInt).natAbs ≤ limit ∧ (y.v.toInt - goal).natAbs ≤ (x.v.toInt - goal).natAbs
        ∧ ((goal - x.v.toInt).natAbs ≤ limit → y.v.toInt = goal))
    ∧ -(l.vRev : Int) ≤ y.v.toInt ∧ y.v.toInt ≤ l.vMax ∧ 0 ≤ x.v.toInt * y.v.toInt
    ∧ y.state = (if cls = 1 ∨ (cls = 2 ∧ y.v = 0) then .tripHold else if cls = 2 then .tripRamp
        else if y.v = 0 ∧ target = 0 then .halt else .moving)

/-- R73, R76, R77: the intake of a received sample; R74, R75: the extrapolation of a missed cycle. -/
def Obligations.FollowerIntakeAndExtrapolation : Prop :=
  ∀ (s : State) (c : CycleBody) (k : Word),
    let b := c.sampleBoundary
    (∀ y, s.lu.sample b = some y → s.takeSample c = s)
    ∧ (s.lu.sample b = none →
        (s.takeSample c).lu.latest = some ⟨b, c.sampleP, c.sampleV, lineStateOf c.lineState, .received, !s.lineLostLatch⟩
        ∧ (∀ y, s.lu.sample (b - 1) = some y → y.origin = .extrapolated →
            let d : Int := (c.sampleP - (y.p + BitVec.signExtend 48 y.v)).toInt
            (s.takeSample c).lu.lastJump = d ∧ (s.takeSample c).lu.jump = decide (s.ctn.limits.resync < d.natAbs))
        ∧ ((∀ y, s.lu.sample (b - 1) = some y → y.origin ≠ .extrapolated) →
            (s.takeSample c).lu.lastJump = s.lu.lastJump ∧ (s.takeSample c).lu.jump = false))
    ∧ (s.lu.sample (k + 1) = none → s.extrapolate k = s)
    ∧ (∀ x, s.lu.sample (k + 1) = some x → s.lu.sample (k + 2) = none →
        ∃ y, (s.extrapolate k).lu.latest = some y ∧ y.boundary = k + 2 ∧ y.p = x.p + BitVec.signExtend 48 x.v
          ∧ y.origin = .extrapolated ∧ y.feed = true
          ∧ (s.lineLostClass = 1 → y.v = 0 ∧ y.state = .tripHold)
          ∧ (s.lineLostClass = 2 → y.v.toInt = (if x.v.toInt.natAbs ≤ s.lu.limits.aLocal then 0
              else if 0 < x.v.toInt then x.v.toInt - s.lu.limits.aLocal else x.v.toInt + s.lu.limits.aLocal)
              ∧ y.state = (if y.v = 0 then .tripHold else .tripRamp))
          ∧ (s.lineLostClass ≠ 1 → s.lineLostClass ≠ 2 → y.v = x.v ∧ y.state = x.state))

/-- R99, R101, R94: every valid published record carries TORQUE_OFF and a velocity of 0 while the effective class is 1, and none is
valid out of RUN. -/
def Obligations.TorqueOffLawKept : Prop :=
  ∀ (c : Instr) (s t : State), s.TorqueLaw → exec c s = .next t → t.TorqueLaw

/-- R91, R92, R86, R139: for every axis 0 ≤ R < D, |T| ≤ L and |T*| ≤ L of context A. -/
def Obligations.AxisLawKept : Prop :=
  ∀ (c : Instr) (s t : State), s.AxisLaw → exec c s = .next t → t.AxisLaw

/-- R82, R83, R95: Write Axis Context, the commit pending mask and the re-phase mask. -/
def Obligations.ContextsAreStagedAndCommitted : Prop :=
  (∀ (s : State) (p : SerialPort) (axis : Byte) (c : ContextParams), s.Arrives p 0x27 →
      let good := c.mode.toNat ≤ 2 ∧ c.marks.toNat ≤ 1 ∧ 1 ≤ c.den.toNat ∧ c.oSlew.toNat ≤ 2 ^ 24 ∧ c.limit.toNat < 2 ^ 31
        ∧ c.tSlew.toNat ≤ 2 ^ 24
      (8 ≤ axis.toNat → exec (.writeAxisContext p axis c) s = .next (s.respond p 0x27 .range []))
      ∧ (∀ i : Fin 8, axis.toNat = i.val →
        (s.axe.commit.getLsbD i.val = true → exec (.writeAxisContext p axis c) s = .next (s.respond p 0x27 .busy []))
        ∧ (s.axe.commit.getLsbD i.val = false → ¬ good →
            exec (.writeAxisContext p axis c) s = .next (s.respond p 0x27 .range []))
        ∧ (s.axe.commit.getLsbD i.val = false → good →
            ∀ mode : AxisMode, c.mode = mode.code →
            let x : AxisContext := ⟨mode, c.num.toInt, c.den.toNat, c.oTarget.toInt, c.oSlew.toNat, c.marks == 1,
              min 256 c.gain.toNat, c.limit.toNat, c.tSlew.toNat, c.quality.toNat, c.deadband.toNat⟩
            exec (.writeAxisContext p axis c) s = .next
              (({ s with axe := { s.axe with axes := s.axe.axes.set i { s.axe.axes.get i with ctxB := x } } }).respond p 0x27
                (if 256 < c.gain.toNat then .clamped else .ok) (if 256 < c.gain.toNat then [0x01, 0x00] else [])))))
  ∧ (∀ (s : State) (p : SerialPort) (mask : Byte),
      (s.Arrives p 0x28 → exec (.commitContext p mask) s = .next
        (({ s with axe := { s.axe with commit := s.axe.commit ||| mask } }).respond p 0x28 .ok [s.axe.commit ||| mask]))
      ∧ (s.Arrives p 0x29 → exec (.withdrawCommit p mask) s = .next
        (({ s with axe := { s.axe with commit := s.axe.commit &&& ~~~mask } }).respond p 0x29 .ok [s.axe.commit &&& ~~~mask]))
      ∧ (s.Arrives p 0x2A →
        (s.ctn.state ∈ [.aligned, .run] → s.lineState = some .halt → exec (.rePhase p mask) s = .next
          (({ s with axe := { s.axe with rePhase := s.axe.rePhase ||| mask } }).respond p 0x2A .ok [s.axe.rePhase ||| mask]))
        ∧ (¬ (s.ctn.state ∈ [.aligned, .run] ∧ s.lineState = some .halt) →
          exec (.rePhase p mask) s = .next (s.respond p 0x2A .notNow []))))

/-- R84 to R88, R140: the switch at a boundary in ALIGNED or RUN that holds a switch compute event, a follower's local boundary or one of the
line node, (x, y) being the pair of the boundary computed for; what it leaves of an axis, `a` being the axis once boundary k is
published, as in the statement on the work of a boundary: R is 0 on a gear change and the division of the same event uses it, T and T* are
clamped when L shrinks, and TRIM_LIMIT is settled whenever L or T* changes (R140); and a boundary that is no switch compute event, or
whose pair is not available, which switches no axis and makes no commit report. COMMIT_DONE and COMMIT_REFUSED are bits 6 and 7. That T*
is 0 from the compute event of an engagement on is DEDUCED, log entry 15; the order of the blocks at a boundary is DEDUCED, log entry 11.
That the records of the event read the class before it is the model's choice, log entry 109. The timing close that follows a local boundary
at once when both timing copies have come (log entry 51) leaves all this as it is. -/
def Obligations.SwitchAtASupercycleStart : Prop :=
  (∀ (s : State) (c : Instr) (l : Word) (x y : Sample), s.hold = none → s.ctn.state ∈ [.aligned, .run] → s.ctn.boundary = some l →
      s.lu.sample (s.ctn.cycle + 1) = some x → s.lu.sample (s.ctn.cycle + 2) = some y →
      ((c = .localBoundary ∧ s.ctn.config.role = .follower ∧ (s.ctn.cycle + 2).toNat % s.ctn.fol.superLen = 0)
        ∨ (c = .lineNodeBoundary ∧ s.ctn.config.role = .line ∧ (s.ctn.cycle + 2).toNat % s.ctn.config.superLen = 0
          ∧ s.ctn.line.restartAsked = false ∧ s.lu.latest.map Sample.boundary = some (s.ctn.cycle + 2))) →
      let pending (i : Fin 8) : Prop := s.axe.commit.getLsbD i.val = true
      let refused (i : Fin 8) : Prop := pending i ∧ (s.axe.axes.get i).ctxA.mode ≠ .off ∧ (s.axe.axes.get i).ctxB.mode ≠ .off
        ∧ ((s.axe.axes.get i).ctxA.num ≠ (s.axe.axes.get i).ctxB.num ∨ (s.axe.axes.get i).ctxA.den ≠ (s.axe.axes.get i).ctxB.den)
        ∧ (x.v ≠ 0 ∨ y.v ≠ 0)
      ∃ t, exec c s = .next t ∧ t.axe.commit = 0
        ∧ (∀ i, (t.axe.axes.get i).ctxB = (s.axe.axes.get i).ctxB)
        ∧ (∀ i, pending i → ¬ refused i → (t.axe.axes.get i).ctxA = (s.axe.axes.get i).ctxB)
        ∧ (∀ i, (¬ pending i ∨ refused i) → (t.axe.axes.get i).ctxA = (s.axe.axes.get i).ctxA)
        ∧ ((∀ i, ¬ pending i) → t.axe.report = s.axe.report)
        ∧ ((∃ i, pending i) → ∃ r, t.axe.report = some r ∧ r.boundary = s.ctn.cycle + 2
            ∧ (∀ i : Fin 8, r.refused.getLsbD i.val = true ↔ refused i)
            ∧ (∀ i : Fin 8, r.switched.getLsbD i.val = true ↔ pending i ∧ ¬ refused i))
        ∧ ((∃ i, pending i ∧ ¬ refused i) → t.drive.pending.getLsbD 6 = true)
        ∧ ((∃ i, refused i) → t.drive.pending.getLsbD 7 = true))
  ∧ (∀ (s m : State) (c : Instr) (l : Word) (x y : Sample) (i : Fin 8), s.hold = none → s.ctn.state ∈ [.aligned, .run] →
      s.ctn.boundary = some l →
      ((c = .localBoundary ∧ s.ctn.config.role = .follower ∧ m = (s.reach s.ctn.next).startLocalCycle)
        ∨ (c = .lineNodeBoundary ∧ s.ctn.config.role = .line ∧ s.ctn.line.restartAsked = false
          ∧ m = ((s.reach s.ctn.next).mergedAtBoundary).generate)) →
      (s.ctn.cycle + 2).toNat % (if s.ctn.config.role = .line then s.ctn.config.superLen else s.ctn.fol.superLen) = 0 →
      m.lu.sample (s.ctn.cycle + 1) = some x → m.lu.sample (s.ctn.cycle + 2) = some y →
      let a := ((m.raiseDrive .cycle).publication (s.ctn.cycle + 1)).axe.axes.get i
      let gear := a.ctxA.num ≠ a.ctxB.num ∨ a.ctxA.den ≠ a.ctxB.den
      let switches := s.axe.commit.getLsbD i.val = true
        ∧ ¬ (a.ctxA.mode ≠ .off ∧ a.ctxB.mode ≠ .off ∧ gear ∧ (x.v ≠ 0 ∨ y.v ≠ 0))
      let now : AxisContext := if switches then a.ctxB else a.ctxA
      let shrinks := switches ∧ a.ctxB.limit < a.ctxA.limit
      let within (z : Int) : Int := if z < -(now.limit : Int) then -(now.limit : Int) else if (now.limit : Int) < z then now.limit else z
      let engages := now.mode ≠ .off ∧ ((switches ∧ a.ctxA.mode = .off) ∨ a.anchor = none)
      ∃ t z, exec c s = .next t ∧ z = t.axe.axes.get i
        ∧ z.ctxA = now ∧ z.ctxB = a.ctxB ∧ z.q = a.q ∧ z.o = a.o ∧ z.anchor = a.anchor
        ∧ z.r = (if switches ∧ gear then 0 else a.r)
        ∧ z.t = (if shrinks then within a.t else a.t)
        ∧ z.tStar = (if engages then 0 else if shrinks then within a.tStar else a.tStar)
        ∧ z.trimLimit = (if engages ∨ (switches ∧ a.ctxB.limit ≠ a.ctxA.limit) then decide (z.tStar.natAbs = now.limit ∧ 0 < now.limit)
            else a.trimLimit)
        ∧ ∀ st, z.prepared = some st → st.kind = .gear →
            st.quotient = ((y.p - x.p).toInt * now.num + z.r) / (now.den : Int)
            ∧ st.r = (((y.p - x.p).toInt * now.num + z.r) % (now.den : Int)).toNat)
  ∧ (∀ (s m : State) (c : Instr) (l : Word), s.hold = none → s.ctn.state ∈ [.aligned, .run] → s.ctn.boundary = some l →
      ((c = .localBoundary ∧ s.ctn.config.role = .follower ∧ m = (s.reach s.ctn.next).startLocalCycle)
        ∨ (c = .lineNodeBoundary ∧ s.ctn.config.role = .line ∧ s.ctn.line.restartAsked = false
          ∧ m = ((s.reach s.ctn.next).mergedAtBoundary).generate)) →
      ((s.ctn.cycle + 2).toNat % (if s.ctn.config.role = .line then s.ctn.config.superLen else s.ctn.fol.superLen) ≠ 0
        ∨ m.lu.sample (s.ctn.cycle + 1) = none ∨ m.lu.sample (s.ctn.cycle + 2) = none) →
      ∃ t, exec c s = .next t ∧ t.axe.commit = s.axe.commit ∧ t.axe.report = s.axe.report
        ∧ (∀ i, (t.axe.axes.get i).ctxA = (s.axe.axes.get i).ctxA ∧ (t.axe.axes.get i).ctxB = (s.axe.axes.get i).ctxB)
        ∧ t.drive.pending.getLsbD 6 = s.drive.pending.getLsbD 6 ∧ t.drive.pending.getLsbD 7 = s.drive.pending.getLsbD 7)

/-- R90, R91, R92, R93, R97: the gear step of an axis in FOLLOW for boundary `b` and pair (x, y), and its record. -/
def Obligations.GearStepDividesExactly : Prop :=
  ∀ (a : Axis) (b : Word) (x y : Sample) (anchor : Pos), a.ctxA.mode = .follow → a.anchor = some anchor → 1 ≤ a.ctxA.den →
    x.feed = true → y.feed = true →
    let dp : Int := (y.p - x.p).toInt
    let X : Int := dp * a.ctxA.num + a.r
    let q : Int := X / (a.ctxA.den : Int)
    let w : Int → Int → Int := fun o t => q + (o - a.o) + (t - a.t)
    ∃ a' r st, a.compute b (some (x, y)) false false false = (a', r) ∧ a' = { a with prepared := some st }
      ∧ st.kind = .gear ∧ (st.r : Int) = X - q * a.ctxA.den ∧ st.r < a.ctxA.den
      ∧ st.quotient = q ∧ st.q = a.q + BitVec.ofInt 48 q ∧ st.anchor = y.p
      ∧ (st.phaseLost = true ↔ a.phaseLost = true ∨ anchor ≠ x.p)
      ∧ (a.ctxA.oSlew = 0 → st.o = a.ctxA.oTarget) ∧ (a.ctxA.tSlew = 0 → st.t = a.tStar)
      ∧ (0 < a.ctxA.oSlew → (st.o - a.o).natAbs ≤ a.ctxA.oSlew
          ∧ (a.ctxA.oTarget - st.o).natAbs = (a.ctxA.oTarget - a.o).natAbs - min a.ctxA.oSlew (a.ctxA.oTarget - a.o).natAbs)
      ∧ (0 < a.ctxA.tSlew → (st.t - a.t).natAbs ≤ a.ctxA.tSlew
          ∧ (a.tStar - st.t).natAbs = (a.tStar - a.t).natAbs - min a.ctxA.tSlew (a.tStar - a.t).natAbs)
      ∧ (st.slewing = true ↔ st.o ≠ a.ctxA.oTarget ∨ st.t ≠ a.tStar)
      ∧ r.boundary = b ∧ r.s = st.q + BitVec.ofInt 48 (st.o + st.t)
      ∧ r.w = (if w st.o st.t < -2147483647 then -2147483647 else if 2147483647 < w st.o st.t then 2147483647 else w st.o st.t)
      ∧ (r.velSat = true ↔ (w st.o st.t < -2147483647 ∨ 2147483647 < w st.o st.t))
      ∧ (r.holdover = true ↔ x.origin = .extrapolated ∨ y.origin = .extrapolated)
      ∧ r.valid = true ∧ r.slewing = st.slewing ∧ r.phaseLost = st.phaseLost ∧ r.trimLimit = a.trimLimit

/-- R84 to R87, R89, R94, R95, R140: the other cases of the table of R89. `engage` says that a switch engages the axis, `re` that it is in the
re-phase mask, `one` that the effective class is 1. The second part is the compute event for boundary `b`: every axis, as the switch of
this event leaves it (`switched`), takes its prepared step and its record of the back set from the table, with the pair of the window, and the
re-phase mask empties when the pair is held. T* at 0 at an engagement is log entry 15 (DEDUCED), S, W and HOLDOVER of a record
without a pair log entry 83 (DESIGN CHOICE).
That W is saturated at a re-phase of a following axis is DEDUCED, log entry 37, and that the event reads the effective class as it stood
before it is the model's choice, log entry 109. -/
def Obligations.StepTableOfABoundary : Prop :=
  (∀ (a : Axis) (b : Word) (pair : Option (Sample × Sample)) (engage re one : Bool),
      let res := a.compute b pair engage re one
      let S (x : Axis) : Pos := x.q + BitVec.ofInt 48 (x.o + x.t)
      ((a.ctxA.mode = .off ∨ pair = none) →
        res.1 = { a with prepared := none } ∧ res.2.valid = false ∧ res.2.s = S a ∧ res.2.w = 0 ∧ res.2.boundary = b)
      ∧ (∀ x y, pair = some (x, y) → a.ctxA.mode ≠ .off →
        ((engage = true ∨ a.anchor = none) → ∃ st, res.1.prepared = some st ∧ st.kind = .engage ∧ st.quotient = 0
          ∧ st.q = BitVec.ofInt 48 ((y.p.toNat * a.ctxA.num) / (a.ctxA.den : Int))
          ∧ (1 ≤ a.ctxA.den → (st.r : Int) = (y.p.toNat * a.ctxA.num) % (a.ctxA.den : Int))
          ∧ st.o = a.ctxA.oTarget ∧ st.t = 0 ∧ res.1.tStar = 0 ∧ st.anchor = y.p ∧ st.phaseLost = false
          ∧ res.2.w = 0 ∧ res.2.s = st.q + BitVec.ofInt 48 st.o ∧ res.2.valid = true)
        ∧ (engage = false → a.anchor ≠ none → re = true → ∃ st, res.1 = { a with prepared := some st } ∧ st.kind = .rePhase ∧ st.quotient = 0
          ∧ st.q = BitVec.ofInt 48 ((y.p.toNat * a.ctxA.num) / (a.ctxA.den : Int))
          ∧ (1 ≤ a.ctxA.den → (st.r : Int) = (y.p.toNat * a.ctxA.num) % (a.ctxA.den : Int))
          ∧ st.anchor = y.p ∧ st.phaseLost = false ∧ res.2.s = st.q + BitVec.ofInt 48 (st.o + st.t) ∧ res.2.valid = true
          ∧ ((a.ctxA.mode = .hold ∨ one = true ∨ x.feed = false ∨ y.feed = false) →
              st.o = a.o ∧ st.t = a.t ∧ res.2.w = 0 ∧ res.2.slewing = a.slewing)
          ∧ (a.ctxA.mode = .follow → one = false → x.feed = true → y.feed = true →
              (a.ctxA.oSlew = 0 → st.o = a.ctxA.oTarget) ∧ (a.ctxA.tSlew = 0 → st.t = a.tStar)
              ∧ (0 < a.ctxA.oSlew → (st.o - a.o).natAbs ≤ a.ctxA.oSlew ∧ (a.ctxA.oTarget - st.o).natAbs
                  = (a.ctxA.oTarget - a.o).natAbs - min a.ctxA.oSlew (a.ctxA.oTarget - a.o).natAbs)
              ∧ (0 < a.ctxA.tSlew → (st.t - a.t).natAbs ≤ a.ctxA.tSlew ∧ (a.tStar - st.t).natAbs
                  = (a.tStar - a.t).natAbs - min a.ctxA.tSlew (a.tStar - a.t).natAbs)
              ∧ res.2.w = max (-2147483647) (min 2147483647 ((st.o - a.o) + (st.t - a.t)))
              ∧ (res.2.slewing = true ↔ st.o ≠ a.ctxA.oTarget ∨ st.t ≠ a.tStar)))
        ∧ (engage = false → a.anchor ≠ none → re = false →
            (a.ctxA.mode = .hold ∨ one = true ∨ x.feed = false ∨ y.feed = false) →
          res.1 = { a with prepared := none } ∧ res.2.valid = true ∧ res.2.s = S a ∧ res.2.w = 0
          ∧ res.2.slewing = a.slewing ∧ res.2.phaseLost = a.phaseLost)))
  ∧ (∀ (s : State) (b : Word),
    let pair : Option (Sample × Sample) := match s.lu.sample (b - 1), s.lu.sample b with
      | some x, some y => some (x, y)
      | _, _ => none
    let superLen := if s.ctn.config.role = .line then s.ctn.config.superLen else s.ctn.fol.superLen
    let a (i : Fin 8) : Axis := s.axe.axes.get i
    let gear (i : Fin 8) : Prop := (a i).ctxA.num ≠ (a i).ctxB.num ∨ (a i).ctxA.den ≠ (a i).ctxB.den
    let moves : Prop := ∃ x y, pair = some (x, y) ∧ (x.v ≠ 0 ∨ y.v ≠ 0)
    let switches (i : Fin 8) : Prop := b.toNat % superLen = 0 ∧ pair ≠ none ∧ s.axe.commit.getLsbD i.val = true
      ∧ ¬ ((a i).ctxA.mode ≠ .off ∧ (a i).ctxB.mode ≠ .off ∧ gear i ∧ moves)
    let within (l z : Int) : Int := if z < -l then -l else if l < z then l else z
    let shrinks (i : Fin 8) : Prop := (a i).ctxB.limit < (a i).ctxA.limit
    let switched (i : Fin 8) (z : Axis) : Prop := (switches i →
        z.ctxA = (a i).ctxB ∧ z.r = (if gear i then 0 else (a i).r)
        ∧ z.t = (if shrinks i then within (a i).ctxB.limit (a i).t else (a i).t)
        ∧ z.tStar = (if shrinks i then within (a i).ctxB.limit (a i).tStar else (a i).tStar)
        ∧ z.trimLimit = (if (a i).ctxB.limit ≠ (a i).ctxA.limit then decide (z.tStar.natAbs = z.ctxA.limit ∧ 0 < z.ctxA.limit)
            else (a i).trimLimit)
        ∧ z = { a i with ctxA := z.ctxA, r := z.r, t := z.t, tStar := z.tStar, trimLimit := z.trimLimit })
      ∧ (¬ switches i → z = a i)
    let engages (i : Fin 8) : Prop := switches i ∧ (a i).ctxA.mode = .off ∧ (a i).ctxB.mode ≠ .off
    ∃ t back, s.computeEvent b = t ∧ t.axe.back = some back
      ∧ (∀ i, ∃ (x : Axis) (e one : Bool), switched i x ∧ (e = true ↔ engages i) ∧ (one = true ↔ s.tru.effective = 1)
          ∧ (t.axe.axes.get i, back.get i) = x.compute b pair e (s.axe.rePhase.getLsbD i.val) one)
      ∧ t.axe.rePhase = (if pair.isSome then 0 else s.axe.rePhase)
      ∧ t = { s with
          axe := { s.axe with axes := t.axe.axes, back := some back, commit := t.axe.commit, rePhase := t.axe.rePhase, report := t.axe.report }
          drive := { s.drive with pending := t.drive.pending } })

/-- R98, R97: the publication of boundary `b`. -/
def Obligations.PublicationPutsTheBackSetInForce : Prop :=
  ∀ (s : State) (b : Word),
    (∀ back, s.axe.back = some back → (back.get 0).boundary = b →
      (s.publication b).axe.back = none
      ∧ (∀ i, (s.publication b).axe.published.get i = { back.get i with
          valid := (back.get i).valid && (s.ctn.state == .run)
          unaligned := s.isFollower && s.ctn.fol.unaligned
          torqueOff := s.tru.effective == 1, ramp := s.tru.effective == 2 })
      ∧ (∀ i x, (s.axe.axes.get i).prepared = some x → (s.publication b).axe.axes.get i = { s.axe.axes.get i with
          q := x.q, r := x.r, o := x.o, t := x.t, anchor := some x.anchor, phaseLost := x.phaseLost, slewing := x.slewing
          prepared := none })
      ∧ (∀ i, (s.axe.axes.get i).prepared = none → (s.publication b).axe.axes.get i = s.axe.axes.get i))
    ∧ ((∀ back, s.axe.back = some back → (back.get 0).boundary ≠ b) →
      (s.publication b).axe.axes = s.axe.axes
      ∧ (∀ i, ((s.publication b).axe.published.get i).valid = false ∧ ((s.publication b).axe.published.get i).boundary = b
          ∧ ((s.publication b).axe.published.get i).w = 0
          ∧ ((s.publication b).axe.published.get i).s = (s.axe.axes.get i).q
              + BitVec.ofInt 48 ((s.axe.axes.get i).o + (s.axe.axes.get i).t)))

/-- A step is `exec` of the front command; an idle step is one tick (the model's choice, log entry 1). -/
def Obligations.StepRunsTheFrontCommand : Prop :=
  ∀ s : State,
    (∀ c rest, s.pending = c :: rest → step s = exec c { s with pending := rest })
    ∧ (s.pending = [] → ∃ t, step s = .next t ∧ t.tick = s.tick + 1
      ∧ t = { s with tick := t.tick, drive := { s.drive with tr := t.drive.tr }, panel := { s.panel with tr := t.panel.tr } }
      ∧ ∀ p, let x := (s.serial p).tr
        (s.hold ≠ none ∨ x.state ∉ [.turnaround, .response] → (t.serial p).tr = x)
        ∧ (s.hold = none → x.state = .turnaround → x.turned = 0 → (t.serial p).tr = { x with turned := 1 })
        ∧ (s.hold = none → ((x.state = .turnaround ∧ x.turned = 1) ∨ (x.state = .response ∧ x.turned = 0)) →
          (t.serial p).tr = { x with
            state := .response, turned := 0, lanes := some (x.response.headD 0), response := x.response.drop 1 }))
    ∧ (∀ n w, s.withFetchWord n w = s)

/-- Every command answers a next state with the same queue, and each setting, mask, id and record is written by its own commands alone
(R24, R25, R51, R68, R82, R110, R111, R125, R132, R142, R146 to R148, R163, R178, R179, R183). -/
def Obligations.EveryCommandAnswersAndSettingsStay : Prop :=
  ∀ (c : Instr) (s : State), ∃ t, exec c s = .next t ∧ t.pending = s.pending
    ∧ (c ≠ .powerOnReset → c ≠ .resetPin →
      ((∀ p x, c ≠ .configureNode p x) → t.ctn.config = s.ctn.config)
      ∧ ((∀ p x, c ≠ .setTimingLimits p x) → t.ctn.limits = s.ctn.limits)
      ∧ ((∀ p x, c ≠ .setLineLimits p x) → t.lu.limits = s.lu.limits)
      ∧ ((∀ p x, c ≠ .publishWords p x) → (∀ p, c ≠ .softReset p) → t.cfe.words = s.cfe.words)
      ∧ ((∀ p i x, c ≠ .writeAxisContext p i x) → ∀ i, (t.axe.axes.get i).ctxB = (s.axe.axes.get i).ctxB)
      ∧ ((∀ p, c ≠ .lockTripTable p) → t.tru.locked = s.tru.locked)
      ∧ ((∀ p x, c ≠ .writeTripEntry p x) → ∀ i, (t.tru.entries.get i).map (fun e => (e.source, e.cls, e.zones, e.mode))
          = (s.tru.entries.get i).map (fun e => (e.source, e.cls, e.zones, e.mode)))
      ∧ ((∀ p f x, c ≠ .writeTriggerEntry p f x) → ∀ i, { t.tgu.triggers.get i with mark := .idle }
          = { s.tgu.triggers.get i with mark := .idle })
      ∧ ((∀ p k x, c ≠ .writeTriggerLine p k x) → ∀ k, (t.tgu.lines.get k).width = (s.tgu.lines.get k).width)
      ∧ ((∀ p x, c ≠ .writeTriggerLifetime p x) → t.tgu.lifetime = s.tgu.lifetime)
      ∧ ((∀ k, c ≠ .pulseStart k) → (s.ctn.state ∈ [.aligned, .run] → t.ctn.state ∈ [.aligned, .run]) →
          t.tgu.nextId = s.tgu.nextId)
      ∧ ((∀ p x y, c ≠ .setMarkLimits p x y) → t.axe.markAge = s.axe.markAge ∧ t.axe.registerSpeed = s.axe.registerSpeed)
      ∧ ((∀ p x, c ≠ .setPoolQuotas p x) → (t.pse.quota, t.pse.reserve, t.pse.tileCap, t.pse.stripCap, t.pse.gap)
          = (s.pse.quota, s.pse.reserve, s.pse.tileCap, s.pse.stripCap, s.pse.gap))
      ∧ ((∀ p x y z, c ≠ .openStrip p x y z) → t.pse.nextId = s.pse.nextId)
      ∧ ((∀ p x, c ≠ .postTileDataByte p x) → t.teu.postSeq = s.teu.postSeq)
      ∧ (∀ q, (∀ x, c ≠ .setEventMask q x) → (t.serial q).mask = (s.serial q).mask)
      ∧ (c ≠ .resetEnd → (∀ p, c ≠ .softReset p) → t.cause = s.cause))

/-- R172, R174, R175, R176, R181: a command on a serial port that cannot arrive has no effect (the model's choice, log entries 3 and 38),
one that is not permitted is denied, and every other one is answered at once; refused, it changes nothing. That a denied command without
parameters is answered DENIED from its command byte on is the model's choice, log entry 104. -/
def Obligations.RefusedDeniedAndUnreadyCommands : Prop :=
  ∀ (c : Instr) (s : State) (p : SerialPort) (code : Byte), portCode c = some (p, code) →
    ((s.hold ≠ none ∨ (s.serial p).tr.ready code = false) → exec c s = .next s)
    ∧ (s.hold = none → (s.serial p).tr.ready code = true → permitted p code = false →
      exec c s = .next (if code = 0x45 ∨ code = 0x4E then s.stream p code true else s.respond p code .denied []))
    ∧ (s.Arrives p code → code ≠ 0x45 → code ≠ 0x4E →
      ∃ t st, exec c s = .next t ∧ (t.serial p).tr.status = some st ∧ (t.serial p).tr.state = .turnaround
        ∧ (t.serial p).tr.response.head? = some st.code ∧ (t.serial p).tr.command = some code
        ∧ (st ∉ [.ok, .clamped] → t = s.respond p code st []))

/-- R181, R121: while the node is held in reset only resets, the levels at its pins and the end of the reset act, the levels being noted
(DEDUCED, log entry 25); R23, R5, R22: in PASSIVE a frame is not delivered, nor is one that a Soft Reset found in reception, in any state
(`discards`): its close touches the tick, the ports and the timers of a CYCLE frame that gives way. That a PROBE goes on then, with no
append, is the model's choice, log entry 77; that an own frame that returns then leaves no record is DEDUCED, log entry 107. The tick is
the model's, log entry 2.
An own FRAGMENT or TILE frame that started at this very tick gives way to a TRIP, CYCLE or PROBE frame
(`recalledIn`): the model's choice, log entry 75. -/
def Obligations.HeldInResetAndPassive : Prop :=
  ∀ s : State,
    (s.hold ≠ none →
      s.torqueOffPin = true ∧ (∀ k, s.cameraPin k = false) ∧ (∀ p, s.attentionPin p = false)
      ∧ (∀ p, exec (.lightAppears p) s = .next (s.onFibre p fun f => { f with light := true })
          ∧ exec (.lightLost p) s = .next (s.onFibre p fun f => { f with light := false }))
      ∧ (∀ k l, exec (.tripInputChange k l) s
          = .next { s with tru := { s.tru with filters := s.tru.filters.set k { s.tru.filters.get k with level := l } } })
      ∧ (∀ p m, exec (.selectFalls p) s = .next (s.onSerial p fun x => { x with tr := { x.tr with select := true } })
          ∧ exec (.transactionEnd p m) s = .next (s.onSerial p fun x => { x with tr := { x.tr with select := false } }))
      ∧ (∀ c : Instr, c ≠ .powerOnReset → c ≠ .resetPin → c ≠ .resetEnd → (∀ p, c ≠ .lightAppears p) → (∀ p, c ≠ .lightLost p) →
          (∀ k l, c ≠ .tripInputChange k l) → (∀ p, c ≠ .selectFalls p) → (∀ p m, c ≠ .transactionEnd p m) →
          exec c s = .next s))
    ∧ (s.hold = none → (s.torqueOffPin = false ↔ s.ctn.state = .run ∧ s.tru.effective ≠ 1))
    ∧ (s.hold = none → ∀ (c : Instr) (p : FibrePort), (s.ctn.state = .passive ∨ s.discards p = true) →
        ((s.ctn.state = .passive ∧ ∃ a f, c = .frameHeaderReceived p a f) ∨ (∃ bs k, c = .badFrameClose p bs k) ∨ (∃ a f, c = .dataCopy p a f)
          ∨ (∃ a f, c = .returnedCopy p a f) ∨ (∃ f, c = .probeAtFollower p f) ∨ (∃ a f, c = .probeReturn p a f)
          ∨ (∃ f, c = .tripFrame p f) ∨ (∃ f, c = .fragment p f) ∨ (∃ f, c = .tile p f) ∨ (∃ f, c = .undelivered p f)) →
        ∃ t, exec c s = .next t
          ∧ t = { s.recalledIn t with
              tick := t.tick, fpf := { s.fpf with a := t.fpf.a, b := t.fpf.b, drops := t.fpf.drops }
              ctn := { s.ctn with line := { s.ctn.line with
                flight := t.ctn.line.flight, returnA := t.ctn.line.returnA, returnB := t.ctn.line.returnB } } })

/-- R172, R173, R174, R149, R163: the events of a transaction. FRAMING is bit 10 of the drive port's set and bit 2 of the panel
port's. -/
def Obligations.TransactionEventsMoveTheRecord : Prop :=
  ∀ (s : State) (p : SerialPort), s.hold = none →
    let x := s.serial p
    let framed (y : Serial) : Serial := { y with
      pending := y.pending ||| (match p with | .drive => 0x0400 | .panel => 0x0004)
      tr := { y.tr with framing := min 255 (y.tr.framing + 1) } }
    let risen (y : Serial) : Serial := { y with tr := { y.tr with
      select := false, state := .idle, denied := false, turned := 0, lanes := none, response := [] } }
    (x.tr.state = .idle → x.tr.select = false →
      exec (.selectFalls p) s = .next (s.onSerial p fun y => { y with tr := { y.tr with select := true, state := .command } }))
    ∧ (x.tr.state = .command → ∀ code : Byte,
      let n := code.toNat
      let known := (0x01 ≤ n ∧ n ≤ 0x0B) ∨ (0x20 ≤ n ∧ n ≤ 0x31) ∨ (0x40 ≤ n ∧ n ≤ 0x53)
      (known → parameterless code = false →
        exec (.commandByteArrival p code) s = .next (s.onSerial p fun y => { y with tr := { y.tr with
          select := true, state := .parameters, command := some code, response := []
          denied := (match p with | .drive => decide (0x40 ≤ n) | .panel => decide (0x20 ≤ n ∧ n ≤ 0x31)) } }))
      ∧ (¬ known →
        exec (.unknownCommand p code) s = .next (s.onSerial p fun y => framed { y with tr := { y.tr with
          select := true, state := .discard, command := some code, denied := false, response := [] } })))
    ∧ (∀ mid : Bool,
      ((x.tr.state ∈ [.idle, .turnaround, .response, .discard, .cutOff] ∨ (x.tr.state = .command ∧ mid = false)
          ∨ (x.tr.state = .data ∧ x.tr.denied = true)) →
        exec (.transactionEnd p mid) s = .next (s.onSerial p risen))
      ∧ ((x.tr.state = .parameters ∨ (x.tr.state = .command ∧ mid = true)) →
        exec (.transactionEnd p mid) s = .next (s.onSerial p fun y => risen (framed y)))
      ∧ (x.tr.state = .data → x.tr.denied = false → x.tr.command = some 0x45 → ∀ w, s.pse.writing = some w →
        exec (.transactionEnd p mid) s = .next (({ s with
          pse := { s.pse with writing := none, lastWrite := some ⟨w.handle, w.outcome, w.stored⟩ } }).onSerial p risen))
      ∧ (x.tr.state = .data → x.tr.denied = false → x.tr.command = some 0x4E →
        (s.teu.posting = none → exec (.transactionEnd p mid) s = .next (s.onSerial p risen))
        ∧ (∀ y, s.teu.posting = some y → s.pse.grant = none →
          exec (.transactionEnd p mid) s = .next (({ s with
            pse := { s.pse with offer := none }
            teu := { s.teu with posting := none, lastPost := some ⟨.range, 0, y.dest, y.screen, y.index⟩ } }).onSerial p risen))))

/-- R181, R183, R2, R106, R108, R111: power-on reset, the reset pin and the end of a reset. The values that `State.reset` takes where
the spec gives none are those of log entries 4 to 6. An own TRIP frame presented at this very instant has not begun to leave (R123): the
model's choice, log entry 113. -/
def Obligations.PowerOnResetPinAndResetEnd : Prop :=
  ∀ s : State,
    let left (x : Fibre) : Option SentFrame := match x.tx with
      | some y =>
        if y.out.origin = .ownTrip ∧ y.start = s.tick ∧ (y.presented = some s.tick ∨ y.out.due = s.tick) then x.sent
        else if 0 ≤ (s.tick - y.start).toInt then some ⟨y.out, min y.out.bytes (2 * (s.tick - y.start).toNat), .idle⟩
        else x.sent
      | none => x.sent
    let held (h : ResetHold) (tru : TripUnit) : State := { State.reset with
      tick := s.tick, hold := some h, cause := s.cause, free := s.free, pending := s.pending, tru := tru
      fpf := { Fpf.reset with
        a := { Fibre.reset with light := s.fpf.a.light, sent := left s.fpf.a }
        b := { Fibre.reset with light := s.fpf.b.light, sent := left s.fpf.b } }
      drive := { Serial.reset with tr := { Transaction.reset with select := s.drive.tr.select } }
      panel := { Serial.reset with tr := { Transaction.reset with select := s.panel.tr.select } } }
    exec .powerOnReset s = .next (held .power
      { TripUnit.reset with filters := s.tru.filters.map fun f => ⟨20, f.level, false, 0⟩ })
    ∧ (s.hold ≠ some .power → exec .resetPin s = .next (held .pin { TripUnit.reset with
        entries := s.tru.entries.map fun e => e.map fun x => { x with latch := false }
        locked := s.tru.locked
        filters := s.tru.filters.map fun f => ⟨f.time, f.level, false, 0⟩ }))
    ∧ (s.hold = some .power → exec .resetPin s = .next s)
    ∧ (∀ h, s.hold = some h → s.ctn.state = .passive →
      ∃ t, exec .resetEnd s = .next t
        ∧ t.cause = (match h with | .power => .power | .pin => .pin)
        ∧ (∀ p, t.fibre p = { s.fibre p with
            link := if (s.fibre p).light then .acquiring else (s.fibre p).link
            idles := if (s.fibre p).light then 0 else (s.fibre p).idles })
        ∧ t.tru.filters = s.tru.filters.map (fun f => { f with filtered := false, since := s.tick })
        ∧ t = { s with
            hold := none, cause := t.cause, free := t.free, axe := t.axe
            fpf := { s.fpf with a := t.fpf.a, b := t.fpf.b }
            ctn := { s.ctn with idleSince := s.tick }
            tru := { s.tru with
              filters := t.tru.filters, entries := t.tru.entries, active := t.tru.active, effective := t.tru.effective }
            tgu := { s.tgu with triggers := t.tgu.triggers }
            drive := { s.drive with pending := t.drive.pending }
            panel := { s.panel with pending := t.panel.pending } })

/-- R182, R183, R13, R20, R22, R28, R51, R81, R118, R135, R144, R162, R171, R178: Soft Reset. The state
and the lanes of a transaction cut off on the other port are DEDUCED, log entry 63, that a line node without a sample is not refused,
log entry 71, that FIRST is no longer due, log entry 50, the error count of a down port, log entry 5, and what the mark on a frame in
reception stands for, log entry 107. That the follower keeps its cycle code, supercycle length, console, line zones and rotating start,
for which the spec gives no reset value, is the model's choice, log entry 6, and so is that an own TRIP frame presented at this very
instant has not begun to leave (R123), log entry 113. -/
def Obligations.SoftResetTakesItsValues : Prop :=
  ∀ (s : State) (p : SerialPort), s.Arrives p 0x0A →
    let refused := s.ctn.state = .run ∨ (s.ctn.config.role = .line ∧ s.ctn.state = .aligned
      ∧ (∃ x, s.lineState = some x ∧ x ≠ .halt ∧ x ≠ .tripHold))
    (refused → exec (.softReset p) s = .next (s.respond p 0x0A .notNow []))
    ∧ (¬ refused → ∃ t, exec (.softReset p) s = .next t
      ∧ (t.serial p).tr.status = some .ok ∧ (t.serial p).tr.response = [0x00] ∧ (t.serial p).tr.framing = 0
      ∧ (∀ q, q ≠ p → (t.serial q).tr = { (s.serial q).tr with
          framing := 0
          state := if (s.serial q).tr.state = .idle then .idle else .cutOff
          turned := if (s.serial q).tr.state = .idle then (s.serial q).tr.turned else 0
          lanes := if (s.serial q).tr.state = .idle then (s.serial q).tr.lanes
            else if (s.serial q).tr.state ∈ [.turnaround, .response] then some 0 else none
          response := if (s.serial q).tr.state = .idle then (s.serial q).tr.response else [] })
      ∧ t.ctn = { s.ctn with
          state := .passive, boundary := none, plan := [], breakIx := none, cycle := 0, window := .before, idleSince := s.tick
          fol := { s.ctn.fol with
            offset := none, lineAddress := none, delay := 0, align := 0, step := 0, holdover := 0, unaligned := false, seen := []
            closed := none, closedBefore := none, waited := none, thisA := none, thisB := none, nextA := none, nextB := none
            acquisition := none, restart := none }
          line := { s.ctn.line with
            delay := none, measured := false, held := false, openA := false, openB := false, joinPending := false, tooSlow := false
            flight := none, returned := none, aResult := none, repeatAt := none, returnA := none, returnB := none
            keptA := none, keptB := none, restartAsked := false } }
      ∧ (∀ q, t.fibre q = { s.fibre q with
          errors := if (s.fibre q).link = .locked then 0 else 255
          published := 0, tx := none, waiting := []
          rx := (s.fibre q).rx.map fun r => ⟨r.arrival, none, false, true⟩
          sent := match (s.fibre q).tx with
            | some y =>
              if y.out.origin = .ownTrip ∧ y.start = s.tick ∧ (y.presented = some s.tick ∨ y.out.due = s.tick) then (s.fibre q).sent
              else if 0 ≤ (s.tick - y.start).toInt then
                some ⟨y.out, min y.out.bytes (2 * (s.tick - y.start).toNat), .stomped⟩
              else (s.fibre q).sent
            | none => (s.fibre q).sent })
      ∧ t.fpf.drops = 0 ∧ t.fpf.routes = Tab.const 48 .none
      ∧ t.cfe = Cfe.reset ∧ t.lu = { LineUnit.reset with limits := s.lu.limits, seed := s.lu.seed }
      ∧ t.axe = { AxisEngine.reset with
          axes := s.axe.axes.map fun a => { Axis.reset with ctxA := a.ctxA, ctxB := a.ctxB }
          markAge := s.axe.markAge, registerSpeed := s.axe.registerSpeed }
      ∧ t.tru = { s.tru with
          entries := t.tru.entries, active := t.tru.active, effective := t.tru.effective, remote := Tab.const 48 none }
      ∧ (∀ i, t.tru.active.get i = t.sourceActive i)
      ∧ t.tgu = { s.tgu with stamps := [], triggers := t.tgu.triggers, lines := t.tgu.lines }
      ∧ (∀ k, t.tgu.lines.get k = { s.tgu.lines.get k with schedule := [] })
      ∧ t.pse = { PacketStore.reset with
          quota := s.pse.quota, reserve := s.pse.reserve, tileCap := s.pse.tileCap, stripCap := s.pse.stripCap
          gap := s.pse.gap, nextId := s.pse.nextId }
      ∧ t.teu = { TileUnit.reset with postSeq := s.teu.postSeq, broadcast := s.teu.broadcast, firstDue := false }
      ∧ t.reads = 0 ∧ t.cause = .soft ∧ t.tick = s.tick ∧ t.hold = none ∧ t.pending = s.pending
      ∧ (∀ q, (t.serial q).mask = (s.serial q).mask ∧ (t.serial q).cycleJump = false ∧ (t.serial q).cycleJitter = false
          ∧ (t.serial q).step = false)
      ∧ t.drive.pending &&& 0xFCFD = 0 ∧ t.panel.pending &&& 0xEFFC = 0
      ∧ (t.drive.pending.getLsbD 1 = true ↔ s.ctn.state ≠ .passive)
      ∧ (t.drive.pending.getLsbD 8 = true ↔ t.tru.effective ≠ s.tru.effective)
      ∧ (t.drive.pending.getLsbD 9 = true ↔ t.tru.effective ≠ 0)
      ∧ (t.panel.pending.getLsbD 12 = true ↔ 8192 ≤ s.pse.reserve))

/-- R62, R102, R122, R134, R160, R177, R183: the reports that change no state, with their responses. `item n` is an item of `n` bytes that
may be absent, behind its presence byte. That the line trip class has such a byte is DEDUCED, log entry 85; that PLAN_TOO_SLOW ends Read
Ring is the model's reading, log entry 45; that the flags of Read Ring take one byte each is the model's choice, log entry 106. That a
line node returns its own rotating start is
DEDUCED, log entry 62, and that Read Strip Data is refused RANGE before NOT_NOW, log entry 21. -/
def Obligations.ReportsChangeNothing : Prop :=
  ∀ (s : State) (p : SerialPort),
    let yes (b : Bool) : Byte := if b then 1 else 0
    let num (n : Nat) : Byte := BitVec.ofNat 8 n
    let item (n : Nat) (x : Option (List Byte)) : List Byte := match x with
      | some bs => 1 :: bs
      | none => 0 :: List.replicate n 0
    (s.Arrives p 0x07 → exec (.readTrips p) s = .next (s.respond p 0x07 .ok (
      (s.tru.entries.list.flatMap fun e => item 6 (e.map fun e =>
        num e.source.val :: num e.cls :: (bytesOf 2 e.zones ++ [if e.mode = .latched then 0 else 1, yes e.latch])))
      ++ (List.finRange 26).map (fun i => yes (s.sourceActive i))
      ++ (s.tru.filters.list.flatMap fun f => beBytes 2 f.time)
      ++ s.tru.driveCodes :: s.tru.panelCodes :: num s.tru.summaryClass :: bytesOf 2 s.tru.summaryZones
      ++ s.tru.summaryCause :: bytesOf 2 s.tru.seq
      ++ (s.tru.remote.list.flatMap fun r => item 11 (r.map fun r =>
        num r.cls :: (bytesOf 2 r.zones ++ r.cause :: (bytesOf 2 r.seq ++ bytesOf 4 r.seen ++ [yes r.carried]))))
      ++ num s.tru.effective
        :: (if s.ctn.config.role = .line then item 1 (if s.lineClass = 0 then none else some [num s.lineClass]) else [])
      ++ [yes s.tru.locked])))
    ∧ (s.Arrives p 0x08 →
      let link (x : LinkState) : Byte := match x with | .dark => 0 | .acquiring => 1 | .locked => 2
      let route (x : Route) : Byte := match x with | .none => 0 | .a => 1 | .b => 2
      let brk (x : BreakIndex) : Byte := match x with | .intact => 0xFF | .opened => 0xFE | .after j => BitVec.ofNat 8 j
      let line := s.ctn.config.role = .line
      exec (.readRing p) s = .next (s.respond p 0x08 .ok (
        link s.fpf.a.link :: num s.fpf.a.errors :: num s.fpf.a.published
        :: link s.fpf.b.link :: num s.fpf.b.errors :: num s.fpf.b.published
        :: beBytes 2 s.fpf.drops
        ++ num s.ctn.plan.length :: s.ctn.plan
        ++ item 1 (s.ctn.breakIx.map fun b => [brk b]) ++ s.fpf.routes.list.map route
        ++ (if line then s.ctn.config.console else s.ctn.fol.console)
        :: bytesOf 2 (if line then s.ctn.config.lineZones else s.ctn.fol.lineZones)
        ++ (if line then num s.pse.rotate else s.ctn.fol.rotating)
        :: (if line then item 4 (s.ctn.line.delay.map (beBytes 4)) ++ [yes s.ctn.line.held, yes s.ctn.line.openA,
          yes s.ctn.line.openB, yes s.ctn.line.joinPending, yes s.ctn.line.tooSlow] else []))))
    ∧ (s.Arrives p 0x0B → exec (.readResetCause p) s = .next (s.respond p 0x0B .ok
        [match s.cause with | .power => 0 | .pin => 1 | .soft => 2]))
    ∧ (s.Arrives p 0x41 →
      let stamp (x : Stamp) : List Byte := x.id :: num x.content.entry :: num x.content.line
        :: ((if x.content.late then 1 else 0) ||| (if x.content.trip then 2 else 0) ||| (if x.claimed then 4 else 0))
        :: (bytesOf 4 x.content.boundary ++ beBytes 4 x.content.tOff ++ bytesOf 2 x.content.repeatNo ++ bytesOf 4 x.content.angle
          ++ bytesOf 4 x.content.v ++ [x.content.axisMask, x.marked, num x.age])
      exec (.readStamps p) s = .next (s.respond p 0x41 .ok (
        num s.tgu.stamps.length :: s.tgu.nextId :: num s.tgu.lifetime
        :: (s.tgu.lines.list.flatMap fun c => beBytes 2 c.width) ++ s.tgu.stamps.flatMap stamp)))
    ∧ (s.Arrives p 0x09 → ∀ a : Byte,
      (¬ (1 ≤ a.toNat ∧ a.toNat ≤ 48) → exec (.readSection p a) s = .next (s.respond p 0x09 .range []))
      ∧ (1 ≤ a.toNat → a.toNat ≤ 48 → a = s.ctn.config.address →
        exec (.readSection p a) s = .next (match s.cfe.own with
          | some (x, k) => s.respond p 0x09 .ok (sectionBytes x ++ bytesOf 4 k)
          | none => s.respond p 0x09 .unknown []))
      ∧ (∀ i : Fin 48, a.toNat = i.val + 1 → a ≠ s.ctn.config.address →
        exec (.readSection p a) s = .next (match s.cfe.table.get i with
          | some e => s.respond p 0x09 .ok (sectionBytes e.sec ++ bytesOf 4 e.cycle ++ [if e.carried then 1 else 0])
          | none => s.respond p 0x09 .unknown [])))
    ∧ (s.Arrives p 0x2C → ∀ a : Byte,
      (8 ≤ a.toNat → exec (.readAxis p a) s = .next (s.respond p 0x2C .range []))
      ∧ (∀ i : Fin 8, a.toNat = i.val →
        let x := s.axe.axes.get i
        let mode (m : AxisMode) : Byte := match m with | .off => 0 | .follow => 1 | .hold => 2
        let context (c : AxisContext) : List Byte := mode c.mode :: (signedBytes 2 c.num ++ beBytes 2 c.den
          ++ signedBytes 4 c.oTarget ++ beBytes 4 c.oSlew ++ yes c.marks :: (beBytes 2 c.gain ++ beBytes 4 c.limit
          ++ beBytes 4 c.tSlew ++ num c.quality :: beBytes 2 c.deadband))
        exec (.readAxis p a) s = .next (s.respond p 0x2C .ok (
          context x.ctxA ++ context x.ctxB ++ bytesOf 6 x.q ++ beBytes 2 x.r ++ signedBytes 4 x.o ++ signedBytes 4 x.t
          ++ signedBytes 4 x.tStar ++ item 6 (x.anchor.map (bytesOf 6))
          ++ ((if x.phaseLost then 1 else 0) ||| (if x.trimLimit then 2 else 0) ||| (if x.slewing then 4 else 0))
          :: yes (s.axe.commit.getLsbD i.val) :: yes (s.axe.rePhase.getLsbD i.val)
          :: (item 6 (s.axe.report.map fun r => bytesOf 4 r.boundary ++ [r.switched, r.refused]) ++ [s.axe.commit])))))
    ∧ (s.Arrives p 0x4B → ∀ (a : Byte) (o : Word) (n : Half),
      ((32 ≤ a.toNat ∨ n = 0) → exec (.readStripData p a o n) s = .next (s.respond p 0x4B .range []))
      ∧ (∀ i : Fin 32, a.toNat = i.val → n ≠ 0 →
        (s.pse.records.get i = none → exec (.readStripData p a o n) s = .next (s.respond p 0x4B .unknown []))
        ∧ (∀ r, s.pse.records.get i = some r →
          exec (.readStripData p a o n) s = .next
            (if r.data.length < o.toNat + n.toNat then s.respond p 0x4B .range []
             else if r.state = .assembling then s.respond p 0x4B .notNow []
             else s.respond p 0x4B .ok ((r.data.drop o.toNat).take n.toNat)))))

/-- R177, R179, R101, R103, R153, R160, R168, R170: the reports that clear what they return, with their items. `item n` is an item of `n`
bytes that may be absent, behind its presence byte. The bytes of a transaction state are the model's (log entry 14), and so are the
instant of the other port's record (log entry 105), the width of a declared length (log entry 99), and the cycle number of the node's own
mask (log entry 26); the general encoding is log entry 20.
An own FRAGMENT or TILE frame that started at this very tick gives way to a TRIP, CYCLE or PROBE frame
(`recalledIn`): the model's choice, log entry 75. -/
def Obligations.ReportsThatClearWhatTheyReturn : Prop :=
  ∀ (s : State) (p : SerialPort),
    let yes (b : Bool) : Byte := if b then 1 else 0
    let item (n : Nat) (x : Option (List Byte)) : List Byte := match x with
      | some bs => 1 :: bs
      | none => 0 :: List.replicate n 0
    let status (x : Status) : Byte := match x with
      | .ok => 0 | .clamped => 1 | .busy => 2 | .notNow => 3 | .range => 4 | .tableLocked => 5 | .full => 6 | .unknown => 7 | .denied => 8
    let pages : List Byte := beBytes 2 s.freePages ++ beBytes 2 s.stripPages ++ beBytes 2 s.tilePages
    let lastWrite := item 5 (s.pse.lastWrite.map fun w => w.handle :: status w.outcome :: beBytes 3 w.stored)
    let lastPost := item 7 (s.teu.lastPost.map fun r =>
      status r.outcome :: (bytesOf 2 r.seq ++ r.dest :: r.screen :: bytesOf 2 r.index))
    let stamp (x : Stamp) : List Byte := x.id :: BitVec.ofNat 8 x.content.entry :: BitVec.ofNat 8 x.content.line
      :: ((if x.content.late then 1 else 0) ||| (if x.content.trip then 2 else 0) ||| (if x.claimed then 4 else 0))
      :: (bytesOf 4 x.content.boundary ++ beBytes 4 x.content.tOff ++ bytesOf 2 x.content.repeatNo ++ bytesOf 4 x.content.angle
        ++ bytesOf 4 x.content.v ++ [x.content.axisMask, x.marked, BitVec.ofNat 8 x.age])
    (s.Arrives p 0x01 →
      let record (q : SerialPort) : List Byte :=
        Config.transactionStateCode (if p = q then 0 else match (s.serial q).tr.state with
            | .idle => 0 | .command => 1 | .parameters => 2 | .data => 3 | .turnaround => 4 | .response => 5 | .discard => 6 | .cutOff => 7)
          :: (item 1 ((s.serial q).tr.command.map fun c => [c]) ++ item 1 ((s.serial q).tr.status.map fun x => [status x])
            ++ beBytes 1 (s.serial q).tr.framing)
      let nodeState : Byte := match s.ctn.state with | .passive => 0 | .joining => 1 | .probing => 2 | .aligned => 3 | .run => 4
      let role : Byte := match s.ctn.config.role with | .none => 0 | .follower => 1 | .line => 2
      let lineState (x : LineState) : Byte := match x with | .halt => 0 | .moving => 1 | .tripRamp => 2 | .tripHold => 3
      let origin (x : SampleOrigin) : Byte := match x with | .received => 0 | .extrapolated => 1 | .generated => 2
      exec (.readStatus p) s = .next
        ((s.onSerial p fun x => { x with cycleJump := false, cycleJitter := false, step := false }).respond p 0x01 .ok (
          nodeState :: s.ctn.config.address :: role :: bytesOf 2 s.ctn.config.membership ++ beBytes 1 s.ctn.config.code ++ beBytes 1 s.ctn.config.superLen
          ++ s.ctn.config.console :: bytesOf 2 s.ctn.config.lineZones
          ++ beBytes 2 s.ctn.limits.window ++ beBytes 1 s.ctn.limits.holdover ++ beBytes 2 s.ctn.limits.returnMargin
          ++ beBytes 1 s.ctn.limits.driveRead ++ beBytes 1 s.ctn.limits.degrade ++ beBytes 4 s.ctn.limits.resync
          ++ beBytes 1 s.axe.markAge ++ beBytes 4 s.axe.registerSpeed
          ++ yes s.tru.locked
          :: ((if s.ctn.fol.unaligned then 1 else 0) ||| (if s.ctn.line.tooSlow then 2 else 0))
          :: ((if (s.serial p).cycleJump then 1 else 0) ||| (if (s.serial p).cycleJitter then 2 else 0)
            ||| (if (s.serial p).step then 4 else 0))
          :: item 16 (s.lu.latest.map fun x => bytesOf 4 x.boundary ++ bytesOf 6 x.p ++ bytesOf 4 x.v
            ++ [lineState x.state, origin x.origin])
          ++ (if s.ctn.config.role = .line then signedBytes 4 s.lu.target ++ [yes s.lu.restartPending] else [])
          ++ (if s.ctn.config.role = .follower then
              beBytes 1 s.ctn.fol.holdover ++ signedBytes 6 s.lu.lastJump ++ [yes s.lu.jump] else [])
          ++ beBytes 1 s.reads ++ pages ++ beBytes 2 s.pse.drops ++ lastWrite ++ lastPost ++ record .drive ++ record .panel)))
    ∧ (s.Arrives p 0x02 → ∃ t, exec (.readEvents p) s = .next t
      ∧ (t.serial p).tr.response = [0x00] ++ bytesOf 2 (s.serial p).pending ++ bytesOf 2 (s.serial p).mask
      ∧ (t.serial p).pending = (match p with
          | .drive => if s.tru.effective ≠ 0 then 0x0200 else 0
          | .panel => (if s.tru.effective ≠ 0 then 0x0002 else 0) ||| (if s.freePages ≤ s.pse.reserve then 0x1000 else 0))
      ∧ t = s.onSerial p (fun x => { x with pending := (t.serial p).pending, tr := (t.serial p).tr })
      ∧ (t.serial p).tr.status = some .ok ∧ (t.serial p).tr.state = .turnaround ∧ (t.serial p).tr.framing = (s.serial p).tr.framing)
    ∧ (s.Arrives p 0x2D → ∃ t, exec (.readSetpoints p) s = .next t
      ∧ t.reads = 0
      ∧ (t.serial p).tr.response = 0x00 :: ((List.finRange 8).flatMap fun i => recordBytes i.val (s.axe.published.get i))
      ∧ (t.serial p).tr.response.length = 137
      ∧ (t.serial p).tr.status = some .ok
      ∧ (1 ≤ s.ctn.limits.driveRead → t.tru.active.get 20 = false)
      ∧ s.ctn.SameButDepartures t.ctn
      ∧ t = { s.recalledIn t with
          reads := 0, fpf := t.fpf, axe := t.axe, free := t.free, ctn := t.ctn
          tru := { s.tru with
            entries := t.tru.entries, active := t.tru.active, seq := t.tru.seq, effective := t.tru.effective }
          tgu := { s.tgu with triggers := t.tgu.triggers }
          drive := { s.drive with tr := t.drive.tr, pending := t.drive.pending }
          panel := { s.panel with pending := t.panel.pending } })
    ∧ (s.Arrives p 0x4A →
      let descriptor (d : Descriptor) : List Byte := item 40 (d.strip.map fun x =>
        bytesOf 2 x.id ++ stamp x.stamp ++ beBytes 4 x.declared ++ beBytes 3 x.data.length ++ beBytes 3 x.sent
        ++ [(match x.priority with | .alert => 0 | .normal => 1),
          (match x.state with | .opened => 1 | .queued => 2 | .sending => 3 | .held => 4),
          (match x.pending with | .none => 0 | .hold => 1 | .cancel => 2)])
      let entry (e : LogEntry) : List Byte :=
        bytesOf 2 e.stripId ++ [e.stampId, match e.outcome with | .sent => 0 | .cancelled => 1 | .lost => 2]
      let record (r : Option StripRecord) : List Byte := item 40 (r.map fun x =>
        x.source :: (bytesOf 2 x.stripId ++ stamp x.stamp ++ beBytes 4 x.declared ++ beBytes 3 x.data.length
        ++ (match x.state with | .assembling => 1 | .complete => 2 | .incomplete => 3) :: bytesOf 4 x.lastCycle))
      exec (.listStrips p) s = .next
      (({ s with pse := { s.pse with log := [], overrun := false } }).respond p 0x4A .ok (
        s.pse.descriptors.list.flatMap descriptor
        ++ BitVec.ofNat 8 s.pse.order.length :: (s.pse.order.map fun (h : Fin 16) => BitVec.ofNat 8 h.val)
        ++ BitVec.ofNat 8 s.pse.log.length :: s.pse.log.flatMap entry
        ++ yes s.pse.overrun :: lastWrite ++ s.pse.records.list.flatMap record
        ++ pages ++ beBytes 2 s.pse.quota ++ beBytes 2 s.pse.reserve ++ beBytes 2 s.pse.tileCap ++ beBytes 2 s.pse.stripCap
        ++ beBytes 1 s.pse.gap ++ beBytes 2 s.pse.drops)))
    ∧ (s.Arrives p 0x51 →
      let mask (i : Fin 48) : List Byte :=
        if i.val + 1 = s.ctn.config.address.toNat then 1 :: (bytesOf 2 s.teu.repaint ++ bytesOf 4 (Config.ownRepaintCycle s.free))
        else item 6 ((s.teu.repaints.get i).map fun e => bytesOf 2 e.mask ++ bytesOf 4 e.cycle)
      exec (.readRepaints p) s = .next (({ s with free := s.free + 1 }).respond p 0x51 .ok (
        (List.finRange 48).flatMap mask ++ lastPost)))
    ∧ (s.Arrives p 0x53 → exec (.readConsoleEvents p) s = .next
      (({ s with teu := { s.teu with console := [], lost := false } }).respond p 0x53 .ok
        (BitVec.ofNat 8 s.teu.console.length :: (if s.teu.lost then 1 else 0)
          :: s.teu.console.flatMap fun (e : ConsoleEvent) => e.source :: e.event.kind :: e.event.code
            :: (bytesOf 2 e.event.x ++ bytesOf 2 e.event.y ++ bytesOf 4 e.cycle))))

/-- R25, R51, R68, R111, R125, R142, R146, R179: the commands that write settings, with the statuses of their checks. That
NOT_NOW comes before RANGE in Set Line Limits, and NOT_NOW, RANGE, TABLE_LOCKED in this order in Set Timing Limits, is DEDUCED, log
entry 21. -/
def Obligations.SettingsAreWrittenWholeOrRefused : Prop :=
  ∀ (s : State) (p : SerialPort),
    (s.Arrives p 0x03 → ∀ mask : Half,
      let m := mask &&& (match p with | .drive => 0x07FF | .panel => 0x1FFF)
      exec (.setEventMask p mask) s = .next ((s.onSerial p fun x => { x with mask := m }).respond p 0x03 .ok (bytesOf 2 m)))
    ∧ (s.Arrives p 0x2E → ∀ words, exec (.publishWords p words) s
        = .next (({ s with cfe := { s.cfe with words := words } }).respond p 0x2E .ok []))
    ∧ (s.Arrives p 0x30 → exec (.lockTripTable p) s
        = .next (({ s with tru := { s.tru with locked := true } }).respond p 0x30 .ok []))
    ∧ (s.Arrives p 0x26 → ∀ l : LineLimitParams,
      let now := s.ctn.config.role ≠ .line ∨ s.ctn.state ∈ [.passive, .probing]
        ∨ (s.ctn.state ∈ [.aligned, .run] ∧ s.lineState = some .halt ∧ s.lu.target = 0)
      let good := l.vMax.toNat < 2 ^ 31 ∧ l.vRev.toNat < 2 ^ 31
        ∧ ∀ a ∈ [l.aUp, l.aDn, l.aTrip, l.aLocal], 1 ≤ a.toNat ∧ a.toNat ≤ 2 ^ 24
      (¬ now → exec (.setLineLimits p l) s = .next (s.respond p 0x26 .notNow []))
      ∧ (now → ¬ good → exec (.setLineLimits p l) s = .next (s.respond p 0x26 .range []))
      ∧ (now → good → exec (.setLineLimits p l) s = .next
          (({ s with lu := { s.lu with limits := ⟨l.vMax.toNat, l.vRev.toNat, l.aUp.toNat, l.aDn.toNat, l.aTrip.toNat,
            l.aLocal.toNat⟩ } }).respond p 0x26 .ok [])))
    ∧ (s.Arrives p 0x31 → ∀ l : TimingLimitParams,
      let good := 8 ≤ l.window.toNat ∧ l.window.toNat ≤ 1024 ∧ 1 ≤ l.holdover.toNat ∧ l.holdover.toNat ≤ 15
        ∧ l.returnMargin.toNat ≤ 4095 ∧ 1 ≤ l.driveRead.toNat ∧ l.driveRead.toNat ≤ 16 ∧ 1 ≤ l.degrade.toNat
      (s.ctn.state ∉ [.passive, .joining] → exec (.setTimingLimits p l) s = .next (s.respond p 0x31 .notNow []))
      ∧ (s.ctn.state ∈ [.passive, .joining] → ¬ good → exec (.setTimingLimits p l) s = .next (s.respond p 0x31 .range []))
      ∧ (s.ctn.state ∈ [.passive, .joining] → good → s.tru.locked = true →
          exec (.setTimingLimits p l) s = .next (s.respond p 0x31 .tableLocked []))
      ∧ (s.ctn.state ∈ [.passive, .joining] → good → s.tru.locked = false →
          ∃ t, exec (.setTimingLimits p l) s = .next t
            ∧ t.ctn = { s.ctn with limits := ⟨l.window.toNat, l.holdover.toNat, l.returnMargin.toNat, l.driveRead.toNat,
                l.degrade.toNat, l.resync.toNat⟩ }
            ∧ (t.serial p).tr.status = some .ok
            ∧ t = { s with
                ctn := t.ctn, axe := t.axe
                tru := { s.tru with entries := t.tru.entries, active := t.tru.active, effective := t.tru.effective }
                tgu := { s.tgu with triggers := t.tgu.triggers }
                drive := { s.drive with tr := t.drive.tr, pending := t.drive.pending }
                panel := { s.panel with pending := t.panel.pending }
                free := t.free }))
    ∧ (s.Arrives p 0x40 →
      (∀ (line : Byte) (width : Half),
        (¬ (line.toNat ≤ 3 ∧ 125 ≤ width.toNat) → exec (.writeTriggerLine p line width) s = .next (s.respond p 0x40 .range []))
        ∧ (∀ k : Fin 4, line.toNat = k.val → 125 ≤ width.toNat → exec (.writeTriggerLine p line width) s = .next
          (({ s with tgu := { s.tgu with lines := s.tgu.lines.set k { s.tgu.lines.get k with width := width.toNat } } }).respond
            p 0x40 .ok [])))
      ∧ (∀ n : Byte, exec (.writeTriggerLifetime p n) s = .next (if n = 0 then s.respond p 0x40 .range []
          else ({ s with tgu := { s.tgu with lifetime := n.toNat } }).respond p 0x40 .ok [])))
    ∧ (s.Arrives p 0x43 → ∀ (age : Byte) (speed : Word),
      exec (.setMarkLimits p age speed) s = .next (if 1 ≤ age.toNat ∧ age.toNat ≤ 16 ∧ speed.toNat < 2 ^ 31 then
          ({ s with axe := { s.axe with markAge := age.toNat, registerSpeed := speed.toNat } }).respond p 0x43 .ok
            (age :: bytesOf 4 speed)
        else s.respond p 0x43 .range []))
    ∧ (s.Arrives p 0x4D → ∀ q : PoolParams,
      let used := (∃ h, (s.pse.descriptors.get h).strip ≠ none) ∨ ∃ k, s.pse.records.get k ≠ none
      let good := q.stripQuota.toNat ≤ 8192 ∧ q.tileReserve.toNat ≤ 2048 ∧ q.gap ≠ 0
      (used → exec (.setPoolQuotas p q) s = .next (s.respond p 0x4D .notNow []))
      ∧ (¬ used → ¬ good → exec (.setPoolQuotas p q) s = .next (s.respond p 0x4D .range []))
      ∧ (¬ used → good → exec (.setPoolQuotas p q) s = .next
          (({ s with
            pse := { s.pse with
              quota := q.stripQuota.toNat, reserve := q.tileReserve.toNat, tileCap := q.tileCap.toNat
              stripCap := q.stripCap.toNat, gap := q.gap.toNat }
            panel := { s.panel with pending := if s.pse.reserve < s.freePages ∧ s.freePages ≤ q.tileReserve.toNat
              then s.panel.pending ||| 0x1000 else s.panel.pending } }).respond p 0x4D .ok [])))

/-- R105, R108, R109, R119: the trip laws are kept, and what they say of the effective class. -/
def Obligations.TripLawKept : Prop :=
  (∀ (c : Instr) (s t : State), s.TripLaw → exec c s = .next t → t.TripLaw)
  ∧ (∀ s : State, s.TripLaw →
      let inForce (cls : Nat) : Prop :=
        (∃ k e, s.tru.entries.get k = some e ∧ e.latch = true ∧ e.zones &&& s.ctn.config.membership ≠ 0 ∧ e.cls = cls)
        ∨ ∃ i r, indexAddress i ≠ s.ctn.config.address ∧ s.tru.remote.get i = some r ∧ r.zones &&& s.ctn.config.membership ≠ 0 ∧ r.cls = cls
      (s.tru.effective = 0 ↔ ∀ cls, inForce cls → cls = 0)
      ∧ (s.tru.effective ≠ 0 → inForce s.tru.effective)
      ∧ (∀ cls, inForce cls → cls ≠ 0 → s.tru.effective ≠ 0 ∧ s.tru.effective ≤ cls))

/-- R107, R106, R109, R114: the port trip codes and the trip inputs, and what a source that becomes active or inactive does. `i` is
the source, `e` the entry that watches it.
An own FRAGMENT or TILE frame that started at this very tick gives way to a TRIP, CYCLE or PROBE frame
(`recalledIn`): the model's choice, log entry 75. -/
def Obligations.SourcesLatchTheirEntries : Prop :=
  ∀ s : State, s.TripLaw → s.hold = none →
    let frame (t : State) : Prop := s.ctn.SameButDepartures t.ctn ∧ t = { s.recalledIn t with
      tick := t.tick, fpf := t.fpf, axe := t.axe, free := t.free, ctn := t.ctn
      tru := { s.tru with
        filters := t.tru.filters, driveCodes := t.tru.driveCodes, panelCodes := t.tru.panelCodes
        entries := t.tru.entries, active := t.tru.active, seq := t.tru.seq, effective := t.tru.effective }
      tgu := { s.tgu with triggers := t.tgu.triggers }
      drive := { s.drive with tr := t.drive.tr, pending := t.drive.pending }
      panel := { s.panel with tr := t.panel.tr, pending := t.panel.pending } }
    let becomes (i : Fin 26) (now : Bool) (t : State) : Prop :=
      t.tru.active = s.tru.active.set i now
      ∧ (∀ k e, s.tru.entries.get k = some e →
          (e.source ≠ i → t.tru.entries.get k = some e)
          ∧ (e.source = i →
            t.tru.entries.get k = some { e with latch := now || (e.mode == .latched && e.latch) }
            ∧ (s.ctn.state ∈ [.aligned, .run] → e.mode = .latched → e.cls ≤ 2 → e.latch = false → now = true →
              t.tru.seq = s.tru.seq + 1
              ∧ ((∀ q, (s.fibre q).link = .locked ∧ (s.fibre q).tx = none ∧ (s.fibre q).waiting = []) →
                ∀ q, (t.fibre q).Holds .ownTrip ⟨0xFF, s.ctn.config.address, 14, 0x03, 0,
                  .trip ⟨s.ctn.config.address, s.tru.seq + 1, BitVec.ofNat 8 e.cls, BitVec.ofNat 8 i.val, e.zones,
                    s.ctn.cycle⟩⟩))
            ∧ (¬ (s.ctn.state ∈ [.aligned, .run] ∧ e.mode = .latched ∧ e.cls ≤ 2 ∧ e.latch = false ∧ now = true) →
              t.tru.seq = s.tru.seq ∧ t.fpf = s.fpf ∧ t.ctn = s.ctn)))
      ∧ ((∀ k e, s.tru.entries.get k = some e → e.source ≠ i) →
          t.tru.entries = s.tru.entries ∧ t.tru.seq = s.tru.seq ∧ t.fpf = s.fpf ∧ t.ctn = s.ctn)
    (∀ (p : SerialPort) (n : Byte),
      let codes := match p with | .drive => s.tru.driveCodes | .panel => s.tru.panelCodes
      let set (t : State) (x : Byte) : Prop := match p with
        | .drive => t.tru.driveCodes = x ∧ t.tru.panelCodes = s.tru.panelCodes
        | .panel => t.tru.panelCodes = x ∧ t.tru.driveCodes = s.tru.driveCodes
      let source (h : n.toNat ≤ 7) : Fin 26 := match p with
        | .drive => ⟨4 + n.toNat, by omega⟩
        | .panel => ⟨12 + n.toNat, by omega⟩
      (s.Arrives p 0x04 →
        (7 < n.toNat → exec (.raiseTrip p n) s = .next (s.respond p 0x04 .range []))
        ∧ (∀ h : n.toNat ≤ 7, ∃ t, exec (.raiseTrip p n) s = .next t ∧ frame t ∧ t.tick = s.tick
            ∧ t.tru.filters = s.tru.filters
            ∧ set t (codes ||| (1#8 <<< n.toNat)) ∧ (t.serial p).tr.response = [0x00, codes ||| (1#8 <<< n.toNat)]
            ∧ (codes.getLsbD n.toNat = false → becomes (source h) true t)
            ∧ (codes.getLsbD n.toNat = true → t = s.respond p 0x04 .ok [codes])))
      ∧ (s.Arrives p 0x05 →
        (7 < n.toNat → exec (.dropTrip p n) s = .next (s.respond p 0x05 .range []))
        ∧ (∀ h : n.toNat ≤ 7, ∃ t, exec (.dropTrip p n) s = .next t ∧ frame t ∧ t.tick = s.tick
            ∧ t.tru.filters = s.tru.filters
            ∧ set t (codes &&& ~~~(1#8 <<< n.toNat)) ∧ (t.serial p).tr.response = [0x00, codes &&& ~~~(1#8 <<< n.toNat)]
            ∧ (codes.getLsbD n.toNat = true → becomes (source h) false t)
            ∧ (codes.getLsbD n.toNat = false → t = s.respond p 0x05 .ok [codes]))))
    ∧ (∀ (k : Fin 4) (l : Bool),
      let f := s.tru.filters.get k
      (f.level = l → exec (.tripInputChange k l) s = .next s)
      ∧ (f.level ≠ l → 0 < f.time → exec (.tripInputChange k l) s = .next
          { s with tru := { s.tru with filters := s.tru.filters.set k { f with level := l, since := s.tick } } })
      ∧ (f.level ≠ l → f.time = 0 → ∃ t, exec (.tripInputChange k l) s = .next t ∧ frame t ∧ t.tick = s.tick
          ∧ t.tru.filters = s.tru.filters.set k ⟨0, l, l, s.tick⟩
          ∧ (f.filtered ≠ l → becomes ⟨k.val, by omega⟩ l t))
      ∧ (f.filtered ≠ f.level → ∃ t, exec (.filterTimeElapsed k) s = .next t ∧ frame t
          ∧ t.tick = (s.reach (f.since + BitVec.ofNat 32 (125 * f.time))).tick
          ∧ t.tru.filters = s.tru.filters.set k { f with filtered := f.level } ∧ becomes ⟨k.val, by omega⟩ f.level t)
      ∧ (f.filtered = f.level → exec (.filterTimeElapsed k) s = .next s))

/-- R78, R110, R112, R114: Write Trip Entry, with the TRIP frame of a newly latched entry, and Reset Trip.
An own FRAGMENT or TILE frame that started at this very tick gives way to a TRIP, CYCLE or PROBE frame
(`recalledIn`): the model's choice, log entry 75. -/
def Obligations.TripTableWriteAndReset : Prop :=
  ∀ (s : State) (p : SerialPort), s.TripLaw →
    (s.Arrives p 0x2F → ∀ (e : TripEntryParams),
      let good := e.index.toNat ≤ 31 ∧ (e.source = 0xFF ∨ e.source.toNat ≤ 25) ∧ 1 ≤ e.cls.toNat ∧ e.cls.toNat ≤ 3
        ∧ e.latchMode.toNat ≤ 1 ∧ e.filterTime.toNat ≤ 255
      let elsewhere := ∃ k x, s.tru.entries.get k = some x ∧ k.val ≠ e.index.toNat ∧ x.source.val = e.source.toNat
      let latched := ∃ k x, s.tru.entries.get k = some x ∧ k.val = e.index.toNat ∧ x.latch = true
      let answers (st : Status) := exec (.writeTripEntry p e) s = .next (s.respond p 0x2F st [])
      (s.tru.locked = true → answers .tableLocked)
      ∧ (s.tru.locked = false → s.ctn.state = .run → answers .notNow)
      ∧ (s.tru.locked = false → s.ctn.state ≠ .run →
        (¬ good → answers .range) ∧ (good → elsewhere → answers .range) ∧ (good → ¬ elsewhere → latched → answers .busy)
        ∧ (good → ¬ elsewhere → ¬ latched → ∀ k : Fin 32, k.val = e.index.toNat →
          ∃ t, exec (.writeTripEntry p e) s = .next t ∧ (t.serial p).tr.status = some .ok
            ∧ (e.source = 0xFF → t.tru.entries = s.tru.entries.set k none ∧ t.tru.filters = s.tru.filters
                ∧ t.tru.seq = s.tru.seq ∧ t.fpf = s.fpf ∧ t.ctn = s.ctn)
            ∧ (∀ src : Fin 26, src.val = e.source.toNat →
                t.tru.entries = s.tru.entries.set k (some ⟨src, e.cls.toNat, e.zones,
                  if e.latchMode = 0 then .latched else .following, s.sourceActive src⟩)
                ∧ (∀ i : Fin 4, t.tru.filters.get i = { s.tru.filters.get i with
                    time := if i.val = src.val then e.filterTime.toNat else (s.tru.filters.get i).time })
                ∧ (s.sourceActive src = true → e.latchMode = 0 → e.cls.toNat ≤ 2 → s.ctn.state = .aligned →
                    t.tru.seq = s.tru.seq + 1
                    ∧ ((∀ q, (s.fibre q).link = .locked ∧ (s.fibre q).tx = none ∧ (s.fibre q).waiting = []) →
                      ∀ q, (t.fibre q).Holds .ownTrip ⟨0xFF, s.ctn.config.address, 14, 0x03, 0,
                        .trip ⟨s.ctn.config.address, s.tru.seq + 1, e.cls, e.source, e.zones, s.ctn.cycle⟩⟩))
                ∧ (¬ (s.sourceActive src = true ∧ e.latchMode = 0 ∧ e.cls.toNat ≤ 2 ∧ s.ctn.state = .aligned) →
                    t.tru.seq = s.tru.seq ∧ t.fpf = s.fpf ∧ t.ctn = s.ctn))
            ∧ s.ctn.SameButDepartures t.ctn
            ∧ t = { s.recalledIn t with
                fpf := t.fpf, axe := t.axe, ctn := t.ctn
                tru := { s.tru with
                  filters := t.tru.filters, entries := t.tru.entries, seq := t.tru.seq, effective := t.tru.effective }
                tgu := { s.tgu with triggers := t.tgu.triggers }
                drive := { s.drive with tr := t.drive.tr, pending := t.drive.pending }
                panel := { s.panel with pending := t.panel.pending } })))
    ∧ (s.Arrives p 0x06 → ∀ mask : Word,
      let cleared (k : Fin 32) (e : TripEntry) : Prop :=
        mask.getLsbD k.val = true ∧ e.mode = .latched ∧ e.latch = true ∧ s.sourceActive e.source = false
      let released := ∃ k e, s.tru.entries.get k = some e ∧ e.source.val = 21 ∧ cleared k e
      ∃ (t : State) (m : Word), exec (.resetTrip p mask) s = .next t
        ∧ (∀ k, s.tru.entries.get k = none → t.tru.entries.get k = none)
        ∧ (∀ k e, s.tru.entries.get k = some e →
            (cleared k e → t.tru.entries.get k = some { e with latch := false })
            ∧ (¬ cleared k e → t.tru.entries.get k = some e))
        ∧ (released →
            (∀ i, (t.axe.axes.get i).phaseLost = ((s.axe.axes.get i).phaseLost || (s.axe.axes.get i).ctxA.mode == .follow))
            ∧ t.lu = { s.lu with window := s.lu.window.map fun x => { x with
                feed := match x.origin with | .received => true | .extrapolated => false | .generated => x.feed } })
        ∧ (¬ released → t.lu = s.lu ∧ ∀ i, (t.axe.axes.get i).phaseLost = (s.axe.axes.get i).phaseLost)
        ∧ (t.serial p).tr.response = 0x00 :: bytesOf 4 m
        ∧ (∀ k : Fin 32, m.getLsbD k.val = (t.tru.entries.get k).any TripEntry.latch)
        ∧ t = { s with
            axe := t.axe, lu := t.lu
            tru := { s.tru with entries := t.tru.entries, effective := t.tru.effective }
            tgu := { s.tgu with triggers := t.tgu.triggers }
            drive := { s.drive with tr := t.drive.tr, pending := t.drive.pending }
            panel := { s.panel with tr := t.panel.tr, pending := t.panel.pending } })

/-- R115, R116, R117, R185: what a TRIP frame and what a section do to the remote record of their source. -/
def Obligations.RemoteTripsAreRaisedAndReplaced : Prop :=
  (∀ (s : State) (p : FibrePort) (f : Frame) (x : TripBody), s.hold = none → (s.fibre p).link = .locked →
    s.ctn.state ≠ .passive → s.discards p = false → f.wfOf Kind.trip → f.body = .trip x →
    ((¬ (1 ≤ x.cls.toNat ∧ x.cls.toNat ≤ 3) ∨ f.source = s.ctn.config.address) →
      ∃ t, exec (.tripFrame p f) s = .next t ∧ t = { s with tick := t.tick, fpf := { s.fpf with a := t.fpf.a, b := t.fpf.b } })
    ∧ (∀ i : Fin 48, 1 ≤ x.cls.toNat → x.cls.toNat ≤ 3 → f.source ≠ s.ctn.config.address → f.source.toNat = i.val + 1 →
      ∃ t r, exec (.tripFrame p f) s = .next t
        ∧ t.tru.remote = s.tru.remote.set i (some r)
        ∧ (s.tru.remote.get i = none → r = ⟨x.cls.toNat, x.zones, x.cause, x.seq, x.cycle, false⟩)
        ∧ (∀ y, s.tru.remote.get i = some y →
            ((x.seq - y.seq).toNat = 0 ∨ 32767 < (x.seq - y.seq).toNat → r = y)
            ∧ (1 ≤ (x.seq - y.seq).toNat → (x.seq - y.seq).toNat ≤ 32767 →
                r.seq = x.seq ∧ r.seen = x.cycle ∧ r.carried = false
                ∧ (y.cls = 0 ∨ x.cls.toNat < y.cls → r.cls = x.cls.toNat ∧ r.zones = x.zones ∧ r.cause = x.cause)
                ∧ (y.cls = x.cls.toNat → r.cls = y.cls ∧ r.zones = y.zones ||| x.zones ∧ r.cause = y.cause)
                ∧ (y.cls ≠ 0 → y.cls < x.cls.toNat → r.cls = y.cls ∧ r.zones = y.zones ∧ r.cause = y.cause)))
        ∧ t.tru.effective = t.tru.classIn s.ctn.config.address s.ctn.config.membership
        ∧ t = { s with
            tick := t.tick, fpf := { s.fpf with a := t.fpf.a, b := t.fpf.b }, axe := t.axe
            tru := { s.tru with remote := t.tru.remote, effective := t.tru.effective }
            tgu := { s.tgu with triggers := t.tgu.triggers }
            drive := { s.drive with pending := t.drive.pending }
            panel := { s.panel with pending := t.panel.pending } }))
  ∧ (∀ (r : Option RemoteTrip) (x : Section) (cs : Word), x.tripClass.toNat ≤ 3 →
      let whole (seen : Word) : RemoteTrip := ⟨x.tripClass.toNat, x.tripZones, x.tripCause, x.tripSeq, seen, false⟩
      (r = none → takeTripSection r x cs = some (whole cs))
      ∧ (∀ y, r = some y →
        (y.carried = true → takeTripSection r x cs = some (whole cs))
        ∧ (y.carried = false →
          (x.tripSeq = y.seq → takeTripSection r x cs = some (whole y.seen))
          ∧ (1 ≤ (x.tripSeq - y.seq).toNat → (x.tripSeq - y.seq).toNat ≤ 32767 → takeTripSection r x cs = some (whole cs))
          ∧ (32767 < (x.tripSeq - y.seq).toNat →
            (2 ≤ (cs - y.seen).toInt → takeTripSection r x cs = some (whole cs))
            ∧ ((cs - y.seen).toInt < 2 → ∃ z, takeTripSection r x cs = some z ∧ z.seq = y.seq ∧ z.seen = y.seen
                ∧ z.carried = false
                ∧ (x.tripClass ≠ 0 → (y.cls = 0 ∨ x.tripClass.toNat < y.cls) →
                    z.cls = x.tripClass.toNat ∧ z.zones = x.tripZones ∧ z.cause = x.tripCause)
                ∧ (y.cls = x.tripClass.toNat → z.cls = y.cls ∧ z.zones = y.zones ||| x.tripZones ∧ z.cause = y.cause)
                ∧ ((x.tripClass = 0 ∨ y.cls < x.tripClass.toNat) → y.cls ≠ 0 → z = y))))))

/-- R124, R125, R131, R129, R130, R132: Write Trigger's entry form, and the start and the end of a pulse. STAMP_NEW and
STAMP_OVERRUN are bits 3 and 4. That the answer holds the nine fields alone is the model's choice, log entry 90. -/
def Obligations.TriggerEntryWriteAndPulses : Prop :=
  ∀ s : State,
    (∀ (p : SerialPort) (form : Byte) (t : TriggerParams), s.Arrives p 0x40 → form ≠ 1 → form ≠ 2 →
      let good := t.index.toNat ≤ 15 ∧ t.enabled.toNat ≤ 1 ∧ t.mode.toNat ≤ 1 ∧ t.line.toNat ≤ 3 ∧ 1 ≤ t.everyNth.toNat
        ∧ t.phase.toNat < t.everyNth.toNat ∧ 1 ≤ t.threshold.toNat ∧ t.threshold.toNat ≤ 3
      (¬ (good ∧ form = 0) → exec (.writeTriggerEntry p form t) s = .next (s.respond p 0x40 .range []))
      ∧ (good → form = 0 → ∀ (k : Fin 16) (line : Fin 4), k.val = t.index.toNat → line.val = t.line.toNat →
        let x : Trigger := {
          enabled := t.enabled == 1
          mode := if t.mode = 0 then .angle else .onTrip
          angle := t.angle, line := line, everyNth := t.everyNth.toNat, phase := t.phase.toNat
          lead := min 500000 t.lead.toNat, axisMask := t.axisMask, threshold := t.threshold.toNat
          mark := if t.mode = 1 ∧ s.tru.effective ≠ 0 ∧ s.tru.effective ≤ t.threshold.toNat then .done else .idle }
        exec (.writeTriggerEntry p form t) s = .next
          (({ s with tgu := { s.tgu with triggers := s.tgu.triggers.set k x } }).respond p 0x40
            (if 500000 < t.lead.toNat then .clamped else .ok) (triggerBytes x))))
    ∧ (s.hold = none → ∀ (k : Fin 4) (x : Pulse),
      let c := s.tgu.lines.get k
      (∀ rest, c.schedule = x :: rest → x.begun = false → (∀ y ∈ rest, y.begun = false) →
        ∃ t, exec (.pulseStart k) s = .next t
          ∧ t.tick = (s.reach x.start).tick
          ∧ t = { s with
              tick := t.tick
              tgu := { s.tgu with
                lines := s.tgu.lines.set k { c with schedule := { x with begun := true } :: rest }
                stamps := (if 32 ≤ s.tgu.stamps.length then s.tgu.stamps.drop 1 else s.tgu.stamps)
                  ++ [⟨s.tgu.nextId, x.content, false, 0, 0⟩]
                nextId := s.tgu.nextId + 1 }
              panel := { s.panel with
                pending := s.panel.pending ||| (if 32 ≤ s.tgu.stamps.length then 0x0018 else 0x0008) } })
      ∧ (c.schedule.find? Pulse.begun = some x →
        exec (.pulseEnd k) s = .next { s with
          tick := (s.reach (x.start + BitVec.ofNat 32 x.width)).tick
          tgu := { s.tgu with lines := s.tgu.lines.set k { c with schedule := c.schedule.filter fun y => !y.begun } } }))

/-- R126 to R131: when an ANGLE entry fires in the interval from a sample with travel `delta`, and its pulse; the schedule's check; the
firing of a DUE ON_TRIP entry; the interval event takes the 16 entries in index order. TRIGGER_COLLISION is bit 5. -/
def Obligations.FiringsBecomePulses : Prop :=
  (∀ (t : Trigger) (i width : Nat) (l : Word) (ticks : Nat) (x : Sample) (delta : Int), 1 ≤ t.everyNth →
    let at_ (d : Nat) : Pos := x.p + BitVec.ofNat 48 d
    (t.crosses x.p delta = true ↔ ∃ d : Nat, 0 < d ∧ (d : Int) ≤ delta ∧ delta < 2 ^ 32 ∧ (at_ d).truncate 32 = t.angle
      ∧ (at_ d).toNat / 2 ^ 32 % t.everyNth = t.phase)
    ∧ (∀ d : Nat, 0 < d → (d : Int) ≤ delta → delta < 2 ^ 32 → (at_ d).truncate 32 = t.angle →
      let tOff := d * ticks / delta.toNat
      tOff ≤ ticks
      ∧ t.anglePulse i width l ticks x delta = {
        start := if tOff < t.lead then l else l + BitVec.ofNat 32 (tOff - t.lead)
        width := width
        content := ⟨i, t.line.val, x.boundary, tOff, BitVec.ofNat 16 ((at_ d).toNat / 2 ^ 32), t.angle, BitVec.ofInt 32 delta,
          t.axisMask, decide (tOff < t.lead), false⟩
        begun := false }))
  ∧ (∀ (s : State) (k : Fin 4) (x : Pulse),
    let old := (s.tgu.lines.get k).schedule
    let free := old.length < 32
      ∧ ∀ y ∈ old, ¬ ((y.start - x.start).toInt < x.width ∧ (x.start - y.start).toInt < y.width)
    (free → ∃ before after, old = before ++ after
      ∧ (∀ y ∈ before, (y.start - x.start).toInt ≤ 0) ∧ (∀ y, after.head? = some y → 0 < (y.start - x.start).toInt)
      ∧ s.firePulse k x = { s with tgu := { s.tgu with
          lines := s.tgu.lines.set k { s.tgu.lines.get k with schedule := before ++ x :: after } } })
    ∧ (¬ free → s.firePulse k x = { s with panel := { s.panel with pending := s.panel.pending ||| 0x0020 } }))
  ∧ (∀ (s : State) (b l : Word) (i : Fin 16) (x : Sample),
    let t := s.tgu.triggers.get i
    (t.enabled = false → s.intervalEntry b l i = s)
    ∧ (t.mode = .onTrip → t.mark ≠ .due → s.intervalEntry b l i = s)
    ∧ (t.mode = .onTrip → s.lu.sample b = none → s.intervalEntry b l i = s)
    ∧ (t.enabled = true → t.mode = .angle →
      (∀ y, s.lu.sample b = some x → s.lu.sample (b + 1) = some y →
        let delta : Int := (y.p - x.p).toInt
        s.intervalEntry b l i = (if t.crosses x.p delta then
          s.firePulse t.line (t.anglePulse i.val (s.tgu.lines.get t.line).width l s.cycleTicks x delta) else s))
      ∧ ((s.lu.sample b = none ∨ s.lu.sample (b + 1) = none) → s.intervalEntry b l i = s))
    ∧ (t.enabled = true → t.mode = .onTrip → t.mark = .due → s.lu.sample b = some x →
      s.intervalEntry b l i = ({ s with tgu := { s.tgu with triggers := s.tgu.triggers.set i { t with
          mark := if s.tru.effective ≠ 0 ∧ s.tru.effective ≤ t.threshold then .done else .idle } } }).firePulse t.line
        { start := l, width := (s.tgu.lines.get t.line).width, begun := false
          content := ⟨i.val, t.line.val, x.boundary, 0, BitVec.ofNat 16 (x.p.toNat / 2 ^ 32), x.p.truncate 32, x.v, t.axisMask,
            false, true⟩ }))
  ∧ (∀ (s : State) (b l : Word), ∃ run : Nat → State, run 0 = s
      ∧ (∀ i : Fin 16, run (i.val + 1) = (run i.val).intervalEntry b l i) ∧ s.intervalEvent b l = run 16)

/-- R136 to R141: Post Mark and Clear Trim. `code` is the outcome, in the coding of 12.4; MARK_RESULT is bit 6.
An own FRAGMENT or TILE frame that started at this very tick gives way to a TRIP, CYCLE or PROBE frame
(`recalledIn`): the model's choice, log entry 75. -/
def Obligations.MarksMoveTheTrimTarget : Prop :=
  ∀ (s : State) (p : SerialPort),
    (s.Arrives p 0x42 → ∀ (axis id : Byte) (e : Word) (quality : Byte),
      (8 ≤ axis.toNat → exec (.postMark p axis id e quality) s = .next (s.respond p 0x42 .range []))
      ∧ (∀ i : Fin 8, axis.toNat = i.val →
        let a := s.axe.axes.get i
        let step : Int := -(Int.tdiv (a.ctxA.gain * e.toInt) 256)
        let limit : Int := a.ctxA.limit
        let trim : Int := max (-limit) (min limit (a.tStar + step))
        let code : Byte :=
          if a.ctxA.mode ≠ .follow then 2
          else if a.ctxA.marks = false then 3
          else match s.tgu.stamps.find? (fun x => x.id == id), s.lu.latest with
            | none, _ => 4
            | some x, y =>
              if x.content.axisMask.getLsbD i.val = false then 5
              else if x.marked.getLsbD i.val = true then 6
              else match y with
                | none => 7
                | some y =>
                  if s.axe.markAge < (BitVec.ofNat 16 (y.p.toNat / 2 ^ 32) - x.content.repeatNo).toNat then 7
                  else if quality.toNat < a.ctxA.quality then 8
                  else if s.tru.effective = 1 ∨ s.tru.effective = 2 then 9
                  else if y.v.toInt < s.axe.registerSpeed then 10
                  else if e.toInt.natAbs ≤ a.ctxA.deadband then 11
                  else if trim = a.tStar + step then 0 else 1
        ∃ t, exec (.postMark p axis id e quality) s = .next t
          ∧ (t.axe.axes.get i).tStar = (if code.toNat ≤ 1 then trim else a.tStar)
          ∧ (t.axe.axes.get i).trimLimit = (if code.toNat ≤ 1 then decide (trim.natAbs = a.ctxA.limit ∧ 0 < a.ctxA.limit)
              else a.trimLimit)
          ∧ (∀ j, ((t.axe.axes.get j).ctxA, (t.axe.axes.get j).q, (t.axe.axes.get j).r, (t.axe.axes.get j).o,
                (t.axe.axes.get j).t, (t.axe.axes.get j).anchor)
              = ((s.axe.axes.get j).ctxA, (s.axe.axes.get j).q, (s.axe.axes.get j).r, (s.axe.axes.get j).o,
                (s.axe.axes.get j).t, (s.axe.axes.get j).anchor))
          ∧ (∀ j, j ≠ i → ((t.axe.axes.get j).tStar, (t.axe.axes.get j).trimLimit)
              = ((s.axe.axes.get j).tStar, (s.axe.axes.get j).trimLimit))
          ∧ t.tgu.stamps = s.tgu.stamps.map (fun x =>
              if x.id = id ∧ (code.toNat ≤ 1 ∨ code = 11) then { x with marked := x.marked ||| (1#8 <<< i.val) } else x)
          ∧ t.panel.tr.response = 0x00 :: code :: (signedBytes 5 (if code.toNat ≤ 1 then step else 0)
              ++ signedBytes 4 (t.axe.axes.get i).tStar ++ [if (t.axe.axes.get i).trimLimit then 1 else 0])
          ∧ t.panel.pending.getLsbD 6 = true
          ∧ s.ctn.SameButDepartures t.ctn
          ∧ t = { s.recalledIn t with
              fpf := t.fpf, free := t.free, ctn := t.ctn
              axe := { s.axe with axes := t.axe.axes, back := t.axe.back, published := t.axe.published }
              tru := { s.tru with
                entries := t.tru.entries, active := t.tru.active, seq := t.tru.seq, effective := t.tru.effective }
              tgu := { s.tgu with triggers := t.tgu.triggers, stamps := t.tgu.stamps }
              drive := { s.drive with pending := t.drive.pending }
              panel := { s.panel with tr := t.panel.tr, pending := t.panel.pending } }))
    ∧ (s.Arrives p 0x2B → ∀ mask : Byte,
      ∃ t, exec (.clearTrim p mask) s = .next t
        ∧ (∀ i : Fin 8, (t.axe.axes.get i).tStar = (if mask.getLsbD i.val then 0 else (s.axe.axes.get i).tStar)
            ∧ (t.axe.axes.get i).trimLimit = (!mask.getLsbD i.val && (s.axe.axes.get i).trimLimit)
            ∧ (t.axe.axes.get i).t = (s.axe.axes.get i).t ∧ (t.axe.axes.get i).ctxA = (s.axe.axes.get i).ctxA
            ∧ (t.axe.axes.get i).q = (s.axe.axes.get i).q ∧ (t.axe.axes.get i).r = (s.axe.axes.get i).r
            ∧ (t.axe.axes.get i).o = (s.axe.axes.get i).o)
        ∧ t.drive.tr.response = [0x00, mask]
        ∧ s.ctn.SameButDepartures t.ctn
        ∧ t = { s.recalledIn t with
            fpf := t.fpf, free := t.free, ctn := t.ctn
            axe := { s.axe with axes := t.axe.axes, back := t.axe.back, published := t.axe.published }
            tru := { s.tru with
              entries := t.tru.entries, active := t.tru.active, seq := t.tru.seq, effective := t.tru.effective }
            tgu := { s.tgu with triggers := t.tgu.triggers }
            drive := { s.drive with tr := t.drive.tr, pending := t.drive.pending }
            panel := { s.panel with pending := t.panel.pending } })

/-- R145, R148, R149: Open Strip, the parameters of Write Strip Data, and one data byte. POOL_LOW is bit 12. -/
def Obligations.StripsAreOpenedAndWritten : Prop :=
  ∀ (s : State) (p : SerialPort),
    (s.Arrives p 0x44 → ∀ (id : Byte) (length : Word) (pr : Byte),
      let good := pr.toNat ≤ 1 ∧ 1 ≤ length.toNat ∧ length.toNat ≤ 262144
      let answers (st : Status) := exec (.openStrip p id length pr) s = .next (s.respond p 0x44 st [])
      let stamp := s.tgu.stamps.find? fun x => x.id == id
      (¬ good → answers .range)
      ∧ (good → stamp = none → answers .unknown)
      ∧ (∀ x, good → stamp = some x →
        (x.claimed = true → answers .busy)
        ∧ (x.claimed = false → (∀ h, (s.pse.descriptors.get h).strip ≠ none) → answers .full)
        ∧ (x.claimed = false → ∀ h, (s.pse.descriptors.get h).strip = none →
          (∀ j, j < h → (s.pse.descriptors.get j).strip ≠ none) →
          exec (.openStrip p id length pr) s = .next (({ s with
            tgu := { s.tgu with stamps := s.tgu.stamps.map (fun (y : Stamp) => if y.id = id then { x with claimed := true } else y) }
            pse := { s.pse with
              nextId := s.pse.nextId + 1
              descriptors := s.pse.descriptors.set h ⟨some ⟨s.pse.nextId, { x with claimed := true },
                length.toNat, [], 0, if pr = 0 then .alert else .normal, .opened, .none, 0, false⟩, none⟩ } }).respond p 0x44 .ok
            (BitVec.ofNat 8 h.val :: bytesOf 2 s.pse.nextId)))))
    ∧ (s.Arrives p 0x45 → ∀ (handle : Byte) (offset : Word),
      let begins (o : Status) := exec (.writeStripData p handle offset) s = .next
        { s.stream p 0x45 false with pse := { s.pse with writing := some ⟨handle, o, 0⟩ } }
      (15 < handle.toNat → begins .range)
      ∧ (∀ h : Fin 16, h.val = handle.toNat →
        ((s.pse.descriptors.get h).strip = none → begins .unknown)
        ∧ (∀ x, (s.pse.descriptors.get h).strip = some x →
          begins (if x.state ≠ .opened then .notNow else if offset.toNat ≠ x.data.length then .range else .ok))))
    ∧ (s.hold = none → (s.serial p).tr.state = .data → (s.serial p).tr.command = some 0x45 →
      (s.serial p).tr.denied = false → ∀ (b : Byte) (w : StripWriting), s.pse.writing = some w →
      (w.outcome ≠ .ok → exec (.writeStripDataByte p b) s = .next s)
      ∧ (w.outcome = .ok → ∀ (h : Fin 16) (x : Strip), h.val = w.handle.toNat → (s.pse.descriptors.get h).strip = some x →
        let page := s.stripPages + 1 ≤ s.pse.quota ∧ s.pse.reserve + 1 ≤ s.freePages
        (x.data.length = x.declared → exec (.writeStripDataByte p b) s
          = .next { s with pse := { s.pse with writing := some { w with outcome := .range } } })
        ∧ (x.data.length ≠ x.declared → x.data.length % 256 = 0 → ¬ page → exec (.writeStripDataByte p b) s
          = .next { s with pse := { s.pse with writing := some { w with outcome := .full } } })
        ∧ (x.data.length ≠ x.declared → (x.data.length % 256 = 0 → page) →
          ∃ t, exec (.writeStripDataByte p b) s = .next t
            ∧ t.panel.pending = (if s.pse.reserve < s.freePages ∧ t.freePages ≤ s.pse.reserve then s.panel.pending ||| 0x1000
                else s.panel.pending)
            ∧ t = { s with
                pse := { s.pse with
                  writing := some { w with stored := w.stored + 1 }
                  descriptors := s.pse.descriptors.set h { s.pse.descriptors.get h with
                    strip := some { x with data := x.data ++ [b], pages := (x.data.length + 1 + 255) / 256 } } }
                panel := { s.panel with pending := t.panel.pending } })))

/-- R150 to R153, R160: Close, Hold, Release, Cancel and Free Strip, where no grant is in hand. STRIP_DONE is bit 7, STRIP_ARRIVED
bit 8. That the console's own strip takes the lowest-numbered free record, and that it does so beside a record of the same key, are the
model's choices, log entries 101 and 102; the last fragment cycle of that record is a free value, log entry 42. -/
def Obligations.StripsAreClosedHeldAndCancelled : Prop :=
  ∀ (s : State) (p : SerialPort) (handle : Byte), s.pse.grant = none →
    let out (h : Fin 16) (id : Half) : Prop := ∃ q y last first, (s.fibre q).tx = some y ∧ y.out.origin = .ownFragment h id last first
    let logged (o : Completion) (x : Strip) (u : PacketStore) : PacketStore := { u with
      log := (if 16 ≤ s.pse.log.length then s.pse.log.drop 1 else s.pse.log) ++ [⟨x.id, x.stamp.id, o⟩]
      overrun := s.pse.overrun || decide (16 ≤ s.pse.log.length) }
    let freed (h : Fin 16) (x : Strip) : PacketStore := { s.pse with
      offer := none, order := s.pse.order.filter (· != h)
      descriptors := s.pse.descriptors.set h ⟨none, some ⟨x.id, x.stamp.id, false⟩⟩ }
    let put (h : Fin 16) (x : Strip) (order : List (Fin 16)) : PacketStore := { s.pse with
      offer := none, order := order
      descriptors := s.pse.descriptors.set h { s.pse.descriptors.get h with strip := some x } }
    let alerts := s.pse.order.filter fun k => s.pse.priorityAt k == some .alert
    let others := s.pse.order.filter fun k => s.pse.priorityAt k != some .alert
    let done : PacketStore → State := fun u => { s with pse := u }
    let note (bits : Half) (t : State) : State := { t with panel := { t.panel with pending := t.panel.pending ||| bits } }
    (∀ (code : Byte) (c : Instr),
      ((code = 0x46 ∧ c = .closeStrip p handle) ∨ (code = 0x47 ∧ c = .holdStrip p handle)
        ∨ (code = 0x48 ∧ c = .releaseStrip p handle) ∨ (code = 0x49 ∧ c = .cancelStrip p handle)) → s.Arrives p code →
      (15 < handle.toNat → exec c s = .next (s.respond p code .range []))
      ∧ (∀ h : Fin 16, h.val = handle.toNat → (s.pse.descriptors.get h).strip = none →
        exec c s = .next (s.respond p code .unknown [])))
    ∧ (∀ (h : Fin 16) (x : Strip), h.val = handle.toNat → (s.pse.descriptors.get h).strip = some x →
      (s.Arrives p 0x46 →
        let ends (t : State) := exec (.closeStrip p handle) s = .next (t.respond p 0x46 .ok [])
        (x.state ≠ .opened → exec (.closeStrip p handle) s = .next (s.respond p 0x46 .notNow []))
        ∧ (x.state = .opened →
          (x.data = [] → ends (done (freed h x)))
          ∧ (x.data ≠ [] → s.isConsole = false →
            ends (done (put h { x with declared := x.data.length, state := .queued }
              (match x.priority with | .alert => alerts ++ [h] ++ others | .normal => s.pse.order ++ [h]))))
          ∧ (x.data ≠ [] → s.isConsole = true → (∀ k, s.pse.records.get k ≠ none) →
            exec (.closeStrip p handle) s = .next (s.respond p 0x46 .full []))
          ∧ (x.data ≠ [] → s.isConsole = true → ∀ k, s.pse.records.get k = none →
            (∀ j, j < k → s.pse.records.get j ≠ none) → ∃ r,
              ends (note 0x0180 { done (logged .sent x { freed h x with records := s.pse.records.set k (some r) }) with
                free := s.free + 1 })
              ∧ r.source = s.ctn.config.address ∧ r.stripId = x.id ∧ r.stamp = x.stamp ∧ r.declared = x.data.length
              ∧ r.data = x.data ∧ r.state = .complete ∧ r.pages = (x.data.length + 255) / 256)))
      ∧ (s.Arrives p 0x47 →
        let ends (t : State) := exec (.holdStrip p handle) s = .next (t.respond p 0x47 .ok [])
        (x.state = .opened → exec (.holdStrip p handle) s = .next (s.respond p 0x47 .notNow []))
        ∧ ((x.state = .queued ∨ (x.state = .sending ∧ ¬ out h x.id)) →
          ends (done (put h { x with state := .held } (s.pse.order.filter (· != h)))))
        ∧ (x.state = .sending → out h x.id →
          (x.pending = .none → ends (done (put h { x with pending := .hold } s.pse.order)))
          ∧ (x.pending = .hold → ends (done { s.pse with offer := none }))
          ∧ (x.pending = .cancel → exec (.holdStrip p handle) s = .next (s.respond p 0x47 .notNow [])))
        ∧ (x.state = .held → ends (done { s.pse with offer := none })))
      ∧ (s.Arrives p 0x48 →
        let ends (t : State) := exec (.releaseStrip p handle) s = .next (t.respond p 0x48 .ok [])
        ((x.state = .opened ∨ x.state = .queued ∨ (x.state = .sending ∧ x.pending ≠ .hold)) →
          exec (.releaseStrip p handle) s = .next (s.respond p 0x48 .notNow []))
        ∧ (x.state = .sending → x.pending = .hold → ends (done (put h { x with pending := .none } s.pse.order)))
        ∧ (x.state = .held → h ∉ s.pse.order →
          ends (done (put h { x with state := .queued }
            (match x.priority with | .alert => h :: s.pse.order | .normal => alerts ++ [h] ++ others)))))
      ∧ (s.Arrives p 0x49 →
        let ends (t : State) := exec (.cancelStrip p handle) s = .next (t.respond p 0x49 .ok [])
        (out h x.id → ends (done (put h { x with pending := .cancel } (s.pse.order.filter (· != h)))))
        ∧ (¬ out h x.id → ends (note 0x0080 (done (logged .cancelled x (freed h x)))))))
    ∧ (s.Arrives p 0x4C →
      (31 < handle.toNat → exec (.freeStrip p handle) s = .next (s.respond p 0x4C .range []))
      ∧ (∀ k : Fin 32, k.val = handle.toNat → exec (.freeStrip p handle) s = .next
          (if s.pse.records.get k = none then s.respond p 0x4C .unknown []
           else ({ s with pse := { s.pse with records := s.pse.records.set k none } }).respond p 0x4C .ok [])))

/-- R158, R159, R185, R8, R152: a FRAGMENT delivered to the PSE, and a fragment or tile of the node's own that returns. STRIP_ARRIVED
is bit 8, STRIP_DONE bit 7. That a returned fragment counts whatever its payload length says is the model's choice, log entry 93. -/
def Obligations.FragmentsAssembleAndReturn : Prop :=
  ∀ (s : State) (p : FibrePort) (f : Frame), s.hold = none → (s.fibre p).link = .locked → s.ctn.state ≠ .passive →
    s.discards p = false →
    (∀ x : FragmentBody, f.wfOf Kind.fragment → f.body = .fragment x → x.payloadLength.toNat = x.payload.length →
      f.dest = s.ctn.config.address → f.source ≠ s.ctn.config.address →
      let key (r : StripRecord) : Prop := r.source = f.source ∧ r.stripId = x.stripId
      let frame (t : State) : Prop := t = { s with
        tick := t.tick, fpf := { s.fpf with a := t.fpf.a, b := t.fpf.b }
        pse := { s.pse with records := t.pse.records, drops := t.pse.drops }
        panel := { s.panel with pending := t.panel.pending } }
      let dropped (t : State) : Prop := frame t ∧ t.pse.records = s.pse.records ∧ t.pse.drops = min 65535 (s.pse.drops + 1)
        ∧ t.panel.pending = s.panel.pending
      let stored (t : State) (k : Fin 32) (r : StripRecord) (before : List Byte) : Prop := frame t ∧ t.pse.drops = s.pse.drops
        ∧ ∃ z, t.pse.records = s.pse.records.set k (some z)
          ∧ z.source = r.source ∧ z.stripId = r.stripId ∧ z.stamp = r.stamp ∧ z.declared = r.declared
          ∧ (x.offset.toNat ≠ before.length ∨ r.declared < before.length + x.payload.length →
              z = { r with data := before, state := .incomplete })
          ∧ (x.offset.toNat = before.length → before.length + x.payload.length ≤ r.declared →
            let total := before.length + x.payload.length
            let room := min (s.pse.quota - s.stripPages) (s.freePages - s.pse.reserve)
            ((total + 255) / 256 ≤ (before.length + 255) / 256 + room →
              z = { r with
                data := before ++ x.payload, lastCycle := s.ctn.cycle, pages := (total + 255) / 256
                state := if f.last = false then .assembling else if total = r.declared then .complete else .incomplete })
            ∧ ((before.length + 255) / 256 + room < (total + 255) / 256 →
              z.state = .incomplete ∧ z.pages = (before.length + 255) / 256 + room
              ∧ z.data = before ++ x.payload.take (256 * z.pages - before.length)))
          ∧ (z.state ≠ .assembling → t.panel.pending.getLsbD 8 = true)
          ∧ (z.state = .assembling → t.panel.pending.getLsbD 8 = s.panel.pending.getLsbD 8)
      (∀ k r, s.pse.records.get k = some r → key r → (∀ j q, j < k → s.pse.records.get j = some q → ¬ key q) →
        (r.state ≠ .assembling → ∃ t, exec (.fragment p f) s = .next t ∧ dropped t)
        ∧ (r.state = .assembling → ∃ t, exec (.fragment p f) s = .next t ∧ stored t k r r.data))
      ∧ ((∀ k r, s.pse.records.get k = some r → ¬ key r) →
        ((x.offset ≠ 0 ∨ (∀ k, s.pse.records.get k ≠ none) ∨ s.pse.quota < s.stripPages + 1 ∨ s.freePages < s.pse.reserve + 1) →
          ∃ t, exec (.fragment p f) s = .next t ∧ dropped t)
        ∧ (∀ k, x.offset = 0 → s.pse.records.get k = none → (∀ j, j < k → s.pse.records.get j ≠ none) →
          s.stripPages + 1 ≤ s.pse.quota → s.pse.reserve + 1 ≤ s.freePages →
          ∃ t r, exec (.fragment p f) s = .next t ∧ stored t k r []
            ∧ r.source = f.source ∧ r.stripId = x.stripId ∧ r.declared = x.declared.toNat ∧ r.stamp.id = x.stamp.stampId
            ∧ r.stamp.content.boundary = x.stamp.boundary ∧ r.stamp.content.tOff = x.stamp.tOff.toNat
            ∧ r.stamp.content.angle = x.stamp.angle ∧ r.stamp.content.v = x.stamp.v ∧ r.stamp.content.axisMask = 0
            ∧ r.stamp.claimed = false ∧ r.stamp.marked = 0 ∧ r.stamp.age = 0)))
    ∧ (∀ x : TileBody, f.wfOf Kind.tile → f.body = .tile x →
      ∃ t, exec (.undelivered p f) s = .next t ∧ t = { s with tick := t.tick, fpf := { s.fpf with a := t.fpf.a, b := t.fpf.b } })
    ∧ (∀ (x : FragmentBody) (h : Fin 16), f.wfOf Kind.fragment → f.body = .fragment x → f.source = s.ctn.config.address →
      f.dest ≠ 0xFF → x.handle.toNat = h.val → s.pse.grant = none →
      let d := s.pse.descriptors.get h
      let out : Prop := ∃ q y last first, (s.fibre q).tx = some y ∧ y.out.origin = .ownFragment h x.stripId last first
      let frame (t : State) (u : PacketStore) (bits : Half) : Prop := t = { s with
        tick := t.tick, fpf := { s.fpf with a := t.fpf.a, b := t.fpf.b }, pse := { u with offer := none }
        panel := { s.panel with pending := s.panel.pending ||| bits } }
      let lost (u : PacketStore) (stamp : Byte) : PacketStore := { u with
        log := (if 16 ≤ s.pse.log.length then s.pse.log.drop 1 else s.pse.log) ++ [⟨x.stripId, stamp, .lost⟩]
        overrun := s.pse.overrun || decide (16 ≤ s.pse.log.length) }
      ∃ t, exec (.undelivered p f) s = .next t
        ∧ (∀ z, d.strip = some z → z.id = x.stripId →
          (out → frame t { s.pse with descriptors := s.pse.descriptors.set h { d with strip := some { z with lostDue := true } } } 0)
          ∧ (¬ out → frame t (lost { s.pse with
              order := s.pse.order.filter (· != h)
              descriptors := s.pse.descriptors.set h ⟨none, some ⟨z.id, z.stamp.id, true⟩⟩ } z.stamp.id) 0x0080))
        ∧ ((∀ z, d.strip = some z → z.id ≠ x.stripId) →
          (∀ y, d.kept = some y → y.id = x.stripId → y.lost = false →
            frame t (lost { s.pse with
              descriptors := s.pse.descriptors.set h { d with kept := some { y with lost := true } } } y.stampId) 0x0080)
          ∧ ((∀ y, d.kept = some y → y.id = x.stripId → y.lost = true) → frame t s.pse 0)))

/-- R155, R10, R14, R153, R165: the async window opens and closes. `inside` is the state at its opening. With a grant in hand, a free LOCKED
port and room in the window, the first fragment of the send order starts; at the console, the first WAITING unicast tile with a route.
The third part is the broadcast rows, at the opening of the window at a console with a grant in hand: the first entry not passed over, a
broadcast one, takes the next broadcast sequence and its row when its first frame is built, and goes out of A; the second frame of an
entry of two goes before every other, out of B; a frame whose port is down leaves wrapped by the other. That the instant of the close is
fixed from D when the window opens is DEDUCED, log entry 57, that the row of an entry stands from its first frame on and only that
frame carries FIRST, log entry 23; that a frame starts as soon as it may is the model's choice, log entry 10. -/
def Obligations.AsyncWindowOpensAndCloses : Prop :=
  (∀ s : State, s.hold = none →
      (∀ l : Word, s.ctn.boundary = some l → s.ctn.state ∈ [.aligned, .run] → s.ctn.window = .before →
        2 * s.delay + (86 + 20 * s.ctn.plan.length) + 532 + 256 < s.cycleTicks →
        let inside : State := { s with
          tick := (s.reach (l + BitVec.ofNat 32 (s.delay + (86 + 20 * s.ctn.plan.length)))).tick
          ctn := { s.ctn with
            window := .inside, windowClose := l + BitVec.ofNat 32 (s.cycleTicks - (s.delay + 532 + 256)) }
          pse := { s.pse with offer := none } }
        (s.pse.grant = none → exec .asyncWindowOpen s = .next inside)
        ∧ (∀ g, s.pse.grant = some g → g.cycle = s.ctn.cycle → s.pse.offer = none →
            (∀ (p : FibrePort) (x : Transmission), (s.fibre p).tx = some x → x.out.origin = .transit) →
          (∀ (h : Fin 16) (rest : List (Fin 16)) (x : Strip) (p : FibrePort), s.pse.order = h :: rest → s.strip h = some x →
            s.isConsole = false → s.console ≠ 0 → s.routeTo s.console = (match p with | .a => Route.a | .b => Route.b) →
            (s.fibre p).link = .locked → (s.fibre p).tx = none → (s.fibre p).waiting = [] → g.stripBlocked = false →
            let payload := (x.data.drop x.sent).take 1024
            let size := payload.length + 40
            let last := decide (x.declared ≤ x.sent + payload.length)
            size ≤ g.strip →
            0 ≤ (inside.ctn.windowClose - (inside.tick + BitVec.ofNat 32 ((size + 1) / 2))).toInt →
            let f : Frame := ⟨s.console, s.ctn.config.address, BitVec.ofNat 16 (payload.length + 32), 0x04, if last then 1 else 0,
              .fragment ⟨BitVec.ofNat 8 h.val, x.id, BitVec.ofNat 24 x.sent, BitVec.ofNat 16 payload.length,
                if x.sent = 0 then BitVec.ofNat 24 x.declared else 0,
                if x.sent = 0 then ⟨x.stamp.id, BitVec.ofNat 4 x.stamp.content.entry, BitVec.ofNat 2 x.stamp.content.line,
                    x.stamp.content.late, x.stamp.content.trip, x.stamp.content.boundary, BitVec.ofNat 24 x.stamp.content.tOff,
                    x.stamp.content.repeatNo, x.stamp.content.angle, x.stamp.content.v⟩
                  else ⟨0, 0, 0, false, false, 0, 0, 0, 0, 0⟩,
                payload⟩⟩
            ∃ t y, exec .asyncWindowOpen s = .next t
              ∧ y.out.frame = f ∧ y.out.origin = .ownFragment h x.id last (x.state == .queued)
              ∧ y.out.incoming = none ∧ y.out.stomped = false ∧ y.start = inside.tick ∧ y.presented = some inside.tick
              ∧ t = ({ inside with pse := { inside.pse with
                  grant := some { g with strip := g.strip - f.size }
                  descriptors := s.pse.descriptors.set h { s.pse.descriptors.get h with
                    strip := some { x with sent := x.sent + payload.length, state := .sending } } } }).onFibre p
                  fun z => { z with tx := some y })
          ∧ (∀ (e : OutTile) (rest : List OutTile) (p : FibrePort), s.teu.out = e :: rest → s.isConsole = true →
            (∀ z ∈ s.teu.out, z.started = 0) → s.teu.posting = none → e.dest ≠ 0xFF → e.row = none →
            s.routeTo e.dest = (match p with | .a => Route.a | .b => Route.b) →
            (s.fibre p).link = .locked → (s.fibre p).tx = none → (s.fibre p).waiting = [] → g.tileBlocked = false →
            e.data.length + 40 ≤ g.tile →
            0 ≤ (inside.ctn.windowClose - (inside.tick + BitVec.ofNat 32 ((e.data.length + 40 + 1) / 2))).toInt →
            e.data.length ≤ 1024 →
            let f : Frame := ⟨e.dest, s.ctn.config.address, BitVec.ofNat 16 (e.data.length + 32), 0x05, if e.repaint then 1 else 0,
              .tile ⟨e.screen, e.index, e.seq, 0, BitVec.ofNat 16 e.data.length, e.data⟩⟩
            ∃ t y, exec .asyncWindowOpen s = .next t
              ∧ y.out.frame = f ∧ y.out.origin = .ownTile ∧ y.out.incoming = none ∧ y.out.stomped = false ∧ y.start = inside.tick
              ∧ y.presented = some inside.tick
              ∧ t = ({ inside with
                  pse := { inside.pse with grant := some { g with tile := g.tile - (e.data.length + 40) } }
                  teu := { s.teu with out := { e with started := 1 } :: rest } }).onFibre p fun z => { z with tx := some y })))
      ∧ (s.ctn.window = .inside → exec .asyncWindowClose s = .next { s with
          tick := (s.reach s.ctn.windowClose).tick
          ctn := { s.ctn with window := .after }
          pse := { s.pse with offer := none, grant := s.pse.grant.filter fun g => g.cycle != s.ctn.cycle } }))
  ∧ (∀ (s : State) (l : Word) (g : Grant) (e : OutTile) (before rest : List OutTile) (q : FibrePort), s.hold = none →
      s.ctn.boundary = some l → s.ctn.state ∈ [.aligned, .run] → s.ctn.window = .before →
      2 * s.delay + (86 + 20 * s.ctn.plan.length) + 532 + 256 < s.cycleTicks →
      s.pse.grant = some g → g.cycle = s.ctn.cycle → s.pse.offer = none → g.tileBlocked = false → s.isConsole = true →
      (∀ (p : FibrePort) (x : Transmission), (s.fibre p).tx = some x → x.out.origin = .transit) →
      s.teu.out = before ++ e :: rest → e.dest = 0xFF → e.data.length ≤ 1024 → e.data.length + 40 ≤ g.tile →
      let inside : State := { s with
        tick := (s.reach (l + BitVec.ofNat 32 (s.delay + (86 + 20 * s.ctn.plan.length)))).tick
        ctn := { s.ctn with window := .inside, windowClose := l + BitVec.ofNat 32 (s.cycleTicks - (s.delay + 532 + 256)) }
        pse := { s.pse with offer := none } }
      0 ≤ (inside.ctn.windowClose - (inside.tick + BitVec.ofNat 32 ((e.data.length + 40 + 1) / 2))).toInt →
      (s.fibre q).link = .locked → (s.fibre q).tx = none → (s.fibre q).waiting = [] →
      let sends (port : FibrePort) (row : BroadcastRow) (flags : Byte) (broadcast : Half) (due : Bool) : Prop :=
        (q = port ∨ (q = port.other ∧ (s.fibre port).link ≠ .locked)) →
        let f : Frame := ⟨0xFF, s.ctn.config.address, BitVec.ofNat 16 (e.data.length + 32), 0x05,
          flags ||| (if e.repaint then 1 else 0) ||| (if q = port then 0 else 0x80),
          .tile ⟨e.screen, e.index, e.seq, row.seq, BitVec.ofNat 16 e.data.length, e.data⟩⟩
        ∃ t y, exec .asyncWindowOpen s = .next t
          ∧ y.out.frame = f ∧ y.out.origin = .ownTile ∧ y.out.incoming = none ∧ y.out.stomped = false
          ∧ y.start = inside.tick ∧ y.presented = some inside.tick
          ∧ t = ({ inside with
              pse := { inside.pse with grant := some { g with tile := g.tile - (e.data.length + 40) } }
              teu := { s.teu with
                out := before ++ { e with started := e.started + 1, row := some row } :: rest
                broadcast := broadcast, firstDue := due } }).onFibre q fun z => { z with tx := some y }
      (s.teu.posting = none → e.started = 0 → e.row = none →
        (∀ z ∈ before, z.started = 0 ∧ z.dest ≠ 0xFF ∧ s.routeTo z.dest = .none) → (∀ z ∈ rest, z.started = 0) →
        sends .a ⟨s.teu.broadcast + 1, decide (s.ctn.breakIx ≠ some .intact), s.teu.firstDue⟩
          (if s.teu.firstDue then 0x02 else 0) (s.teu.broadcast + 1) false)
      ∧ (∀ row, s.teu.posting = none → e.started = 0 → e.row = some row →
        (∀ z ∈ before, z.started = 0 ∧ z.dest ≠ 0xFF ∧ s.routeTo z.dest = .none) → (∀ z ∈ rest, z.started = 0) →
        sends .a row (if row.first then 0x02 else 0) s.teu.broadcast s.teu.firstDue)
      ∧ (∀ row, e.started = 1 → e.row = some row → row.two = true → (∀ z ∈ before, z.started = 0) →
        sends .b row 0 s.teu.broadcast s.teu.firstDue))

/-- R156, R157: a grant table has at most 16 entries, no node twice, keeps each cap and demand, sums to no more than the budget, and serves
the first node of the tile pass first; the table held after a line node's boundary is that of the merged cycle. -/
def Obligations.GrantTablesKeepTheBudget : Prop :=
  ∀ (s : State) (k : Word), s.ctn.plan.Nodup → s.pse.tileCap ≤ 65535 → s.pse.stripCap ≤ 65535 →
    let budget := 2 * (s.cycleTicks - (2 * s.delay + (86 + 20 * s.ctn.plan.length) + 532 + 256))
    let demands (a : Byte) (p : Section → Prop) : Prop := ∃ i e, addressIndex a = some i ∧ s.cfe.table.get i = some e
      ∧ e.cycle = k ∧ p e.sec
    let entries := (s.grantTable k).entries
    entries.length ≤ 16 ∧ (entries.map GrantEntry.node).Nodup
    ∧ (entries.map fun g => 64 * (g.tile.toNat + g.strip.toNat)).sum ≤ budget
    ∧ (∀ g ∈ entries, g.node ∈ s.ctn.plan ∧ 1 ≤ g.tile.toNat + g.strip.toNat
        ∧ g.tile.toNat ≤ s.pse.tileCap ∧ g.strip.toNat ≤ s.pse.stripCap
        ∧ demands g.node fun x => g.tile.toNat ≤ x.tileDemand.toNat
            ∧ g.strip.toNat ≤ x.alertDemand.toNat + x.normalDemand.toNat)
    ∧ (s.grantTable k).start = s.pse.rotate
    ∧ (∀ a i e, (s.ctn.plan.drop s.pse.rotate ++ s.ctn.plan.take s.pse.rotate).head? = some a → addressIndex a = some i →
        s.cfe.table.get i = some e → e.cycle = k → 1 ≤ min e.sec.tileDemand.toNat (min s.pse.tileCap (budget / 64)) →
        ∃ g, entries.head? = some g ∧ g.node = a
          ∧ g.tile.toNat = min e.sec.tileDemand.toNat (min s.pse.tileCap (budget / 64)))
    ∧ (s.hold = none → s.ctn.config.role = .line → s.ctn.state ∈ [.aligned, .run] → s.ctn.boundary ≠ none →
        s.ctn.line.restartAsked = false →
        ∃ t, exec .lineNodeBoundary s = .next t
          ∧ t.pse.rotate = (if s.ctn.plan = [] then 0 else (s.pse.rotate + 1) % s.ctn.plan.length)
          ∧ (s.ctn.line.keptA = none → s.ctn.line.keptB = none → t.pse.computed = none)
          ∧ (s.ctn.line.keptA ≠ none ∨ s.ctn.line.keptB ≠ none →
              t.pse.computed = some (((s.reach s.ctn.next).mergedAtBoundary).grantTable s.ctn.cycle)
              ∧ (((s.reach s.ctn.next).mergedAtBoundary).grantTable s.ctn.cycle).start = s.pse.rotate))

/-- R163, R164: Post Tile's checks and its data bytes, where no grant is in hand. POOL_LOW is bit 12. -/
def Obligations.TilesArePosted : Prop :=
  ∀ (s : State) (p : SerialPort), s.pse.grant = none →
    (s.Arrives p 0x4E → s.teu.posting = none → ∀ (dest screen : Byte) (index : Half) (repaint : Byte) (length : Half),
      let good := ((1 ≤ dest.toNat ∧ dest.toNat ≤ 48) ∨ dest = 0xFF) ∧ screen.toNat ≤ 15 ∧ index.toNat ≤ 1023 ∧ repaint.toNat ≤ 1
        ∧ 1 ≤ length.toNat ∧ length.toNat ≤ 1024
      let matched := s.teu.out.any fun e => e.started == 0 && e.dest == dest && e.screen == screen && e.index == index
      let o : Status := if s.isConsole = false then .notNow else if ¬ good then .range
        else if s.freePages < (length.toNat + 255) / 256 then .full
        else if matched = false ∧ 64 ≤ s.teu.out.length then .full else .ok
      (o ≠ .ok → exec (.postTile p dest screen index repaint length) s = .next { s.stream p 0x4E false with
          teu := { s.teu with lastPost := some ⟨o, 0, dest, screen, index⟩ } })
      ∧ (o = .ok → exec (.postTile p dest screen index repaint length) s = .next { s.stream p 0x4E false with
          pse := { s.pse with offer := none }
          teu := { s.teu with posting := some ⟨dest, screen, index, repaint == 1, length.toNat, [], matched⟩ }
          panel := { (s.stream p 0x4E false).panel with pending :=
            if s.pse.reserve < s.freePages ∧ s.freePages ≤ s.pse.reserve + (length.toNat + 255) / 256
            then s.panel.pending ||| 0x1000 else s.panel.pending } }))
    ∧ (s.hold = none → (s.serial p).tr.state = .data → (s.serial p).tr.command = some 0x4E → (s.serial p).tr.denied = false →
      ∀ (x : Posting) (b : Byte), s.teu.posting = some x →
      (x.got.length + 1 < x.length → exec (.postTileDataByte p b) s
        = .next { s with teu := { s.teu with posting := some { x with got := x.got ++ [b] } } })
      ∧ (x.length = x.got.length + 1 →
        let data := x.got ++ [b]
        let seq := s.teu.postSeq + 1
        let u : TileUnit := { s.teu with
          posting := none, postSeq := seq, lastPost := some ⟨.ok, seq, x.dest, x.screen, x.index⟩ }
        ∃ t out, exec (.postTileDataByte p b) s = .next t
          ∧ (x.dest = s.ctn.config.address → out = s.teu.out)
          ∧ (x.dest ≠ s.ctn.config.address →
            ((∀ e ∈ s.teu.out, ¬ (e.started = 0 ∧ (e.dest, e.screen, e.index) = (x.dest, x.screen, x.index))) →
              out = s.teu.out ++ [⟨x.dest, x.screen, x.index, x.repaint, data, seq, 0, none⟩])
            ∧ (∀ before e after, s.teu.out = before ++ e :: after → e.started = 0 →
              (e.dest, e.screen, e.index) = (x.dest, x.screen, x.index) →
              (∀ y ∈ before, ¬ (y.started = 0 ∧ (y.dest, y.screen, y.index) = (x.dest, x.screen, x.index))) →
              out = before ++ { e with data := data, repaint := x.repaint, seq := seq } :: after))
          ∧ (x.dest ≠ s.ctn.config.address → x.dest ≠ 0xFF →
            t.teu = { u with out := out } ∧ t.panel.pending.getLsbD 9 = s.panel.pending.getLsbD 9
              ∧ t.panel.pending.getLsbD 11 = s.panel.pending.getLsbD 11)
          ∧ ((x.dest = s.ctn.config.address ∨ x.dest = 0xFF) →
            ({ s with teu := { u with out := out } }).TileArrives t ⟨x.screen, x.index, x.repaint, seq, data, false⟩
            ∧ t.teu = { u with out := out, incoming := t.teu.incoming, repaint := t.teu.repaint })
          ∧ t = { s with
              pse := { s.pse with offer := none }, teu := t.teu
              panel := { s.panel with pending := t.panel.pending } }))

/-- R166 to R169, R185: a TILE frame at a node, Fetch Tile, Release Tile and Post Event. The tick is the model's, log entry 2. That Fetch Tile
answers BUSY before UNKNOWN is DEDUCED, log entry 21. -/
def Obligations.TilesArriveAndAreFetched : Prop :=
  (∀ (s : State) (p : FibrePort) (f : Frame) (x : TileBody), s.hold = none → (s.fibre p).link = .locked →
      s.ctn.state ≠ .passive → s.discards p = false → f.wfOf Kind.tile → f.body = .tile x → x.coded f.length.toNat = true →
      f.source ≠ s.ctn.config.address → (f.dest = s.ctn.config.address ∨ f.dest = 0xFF) →
      let old := f.dest = 0xFF ∧ ∃ l, s.teu.lastBroadcast = some l ∧
        (if f.first then x.broadcastSeq = l
         else ¬ (1 ≤ (x.broadcastSeq - l).toNat ∧ (x.broadcastSeq - l).toNat ≤ 32767))
      ∃ t, exec (.tile p f) s = .next t
        ∧ (old → t.teu = s.teu ∧ t.panel = s.panel)
        ∧ (¬ old → s.TileArrives t ⟨x.screen, x.index, f.repaint, x.postSeq, x.data, false⟩
            ∧ t.teu.lastBroadcast = (if f.dest = 0xFF then some x.broadcastSeq else s.teu.lastBroadcast))
        ∧ t = { s with
            tick := t.tick, fpf := { s.fpf with a := t.fpf.a, b := t.fpf.b }
            teu := { s.teu with incoming := t.teu.incoming, repaint := t.teu.repaint, lastBroadcast := t.teu.lastBroadcast }
            panel := { s.panel with pending := t.panel.pending } })
  ∧ (∀ (s : State) (p : SerialPort), s.StoreLaw →
      (s.Arrives p 0x4F →
        ((∃ e ∈ s.teu.incoming, e.fetched = true) → exec (.fetchTile p) s = .next (s.respond p 0x4F .busy []))
        ∧ (s.teu.incoming = [] → exec (.fetchTile p) s = .next (s.respond p 0x4F .unknown []))
        ∧ (∀ e rest, s.teu.incoming = e :: rest → e.fetched = false →
          exec (.fetchTile p) s = .next
            (({ s with teu := { s.teu with incoming := { e with fetched := true } :: rest } }).respond p 0x4F .ok
              (e.screen :: (bytesOf 2 e.index ++ (if e.repaint then 1 else 0) :: (bytesOf 2 e.seq
                ++ beBytes 2 e.data.length ++ e.data))))))
      ∧ (s.Arrives p 0x50 →
        ((∀ e ∈ s.teu.incoming, e.fetched = false) → exec (.releaseTile p) s = .next (s.respond p 0x50 .unknown []))
        ∧ (∀ e rest, s.teu.incoming = e :: rest → e.fetched = true →
          exec (.releaseTile p) s = .next (({ s with teu := { s.teu with incoming := rest } }).respond p 0x50 .ok [])))
      ∧ (s.Arrives p 0x52 → ∀ (kind code : Byte) (x y : Half),
        exec (.postEvent p kind code x y) s = .next
          (if ¬ (1 ≤ kind.toNat ∧ kind.toNat ≤ 3) then s.respond p 0x52 .range []
           else if 16 ≤ s.teu.events.length then s.respond p 0x52 .full []
           else ({ s with teu := { s.teu with events := s.teu.events ++ [(⟨kind, code, x, y⟩ : EventSlot)] } }).respond p 0x52 .ok [])))

/-- The sizes of the node's lists and counts are kept by every well-formed command (see `State.SizeLaw`). -/
def Obligations.SizeLawKept : Prop :=
  ∀ (c : Instr) (s t : State), c.wf = true → s.SizeLaw → exec c s = .next t → t.SizeLaw

/-- The laws of the send order, the tile queues, a post in progress and the timing copies are kept (see `State.StoreLaw`). -/
def Obligations.StoreLawKept : Prop :=
  ∀ (c : Instr) (s t : State), s.StoreLaw → exec c s = .next t → t.StoreLaw

/-- The state after power-on reset keeps every law, and holds the reset values that the spec gives. -/
def Obligations.ResetStateKeepsTheLaws : Prop :=
  State.reset.RoutesCurrent ∧ State.reset.TorqueLaw ∧ State.reset.AxisLaw ∧ State.reset.TripLaw ∧ State.reset.SizeLaw
  ∧ State.reset.StoreLaw
  ∧ State.reset.ctn.state = .passive ∧ State.reset.cause = .power ∧ State.reset.reads = 0 ∧ State.reset.pending = []
  ∧ (State.reset.ctn.config.address = 0 ∧ State.reset.ctn.config.role = .none ∧ State.reset.ctn.config.membership = 1
    ∧ State.reset.ctn.config.code = 8 ∧ State.reset.ctn.config.superLen = 8)

/-- R1, R20, R21, R89, R98, R126, R133, R159: the work of a boundary, at a follower and at a line node that no restart is asked of: `m` is
the state in which it begins, `k` the number of the cycle that begins. The lock error counts return to 0; at a supercycle start the port
error counts are published. In ALIGNED or RUN the publication of boundary k comes first, then the compute event for boundary k + 1, the
sources, and the interval event of boundary k; the stamps age, and assembling records run into the gap timeout. That the drive read
count and the sources follow the compute event is the model's order, log entry 11; that the compute event reads the effective class as it
stood before it is its choice, log entry 109, and so are the signed lag of a record, log entry 110, and the class settled once for all latches that
change at a supercycle start, log entry 117. Where both timing copies
of the cycle that begins have come (`both`), its timing close follows the work at once (`closed`; DEDUCED, log entry 51). -/
def Obligations.BoundariesRunTheWorkOfTheBlocks : Prop :=
  ∀ (s m : State) (c : Instr) (l : Word), s.hold = none → s.ctn.boundary = some l →
    ((c = .localBoundary ∧ s.ctn.config.role = .follower ∧ m = (s.reach s.ctn.next).startLocalCycle)
      ∨ (c = .lineNodeBoundary ∧ s.ctn.config.role = .line ∧ s.ctn.state ∈ [.aligned, .run] ∧ s.ctn.line.restartAsked = false
        ∧ m = ((s.reach s.ctn.next).mergedAtBoundary).generate)) →
    let k := s.ctn.cycle + 1
    let both : Bool := c == .localBoundary && s.ctn.fol.nextA.isSome && s.ctn.fol.nextB.isSome
    let closed (x : State) : State := if both then x.timingClose else x
    let supercycle := k.toNat % (if s.ctn.config.role = .line then s.ctn.config.superLen else s.ctn.fol.superLen) = 0
    ∃ t, exec c s = .next t
      ∧ (∀ p, (t.fibre p).lockErrors = 0
          ∧ (supercycle → (t.fibre p).published = (s.fibre p).errors
              ∧ (t.fibre p).errors = if (s.fibre p).link = .locked then 0 else 255)
          ∧ (¬ supercycle → (t.fibre p).published = (s.fibre p).published ∧ (t.fibre p).errors = (s.fibre p).errors))
      ∧ (supercycle → t.tru.active.get 23 = decide (s.ctn.limits.degrade ≤ s.fpf.a.errors)
          ∧ t.tru.active.get 24 = decide (s.ctn.limits.degrade ≤ s.fpf.b.errors))
      ∧ (s.ctn.state ∈ [.aligned, .run] →
          let u := ((m.raiseDrive .cycle).publication k).computeEvent (k + 1)
          let w := ({ u with reads := min 255 (u.reads + 1) }).settleTrips
          let x := ((w.intervalEvent k s.ctn.next).onTgu TriggerUnit.ageStamps).gapTimeout
          t.lu = (closed x).lu ∧ t.axe = (closed x).axe ∧ t.tru = (closed x).tru ∧ t.tgu = (closed x).tgu
          ∧ (both = false → t.lu = m.lu ∧ t.axe = w.axe ∧ t.tru = w.tru ∧ t.tgu = (w.intervalEvent k s.ctn.next).tgu.ageStamps)
          ∧ (both = false ∨ t.ctn.state ∈ [.aligned, .run] →
              t.tgu.stamps = (s.tgu.stamps.map fun x => { x with age := min 255 (x.age + 1) }).filter fun x =>
                decide (x.age < s.tgu.lifetime))
          ∧ (∀ i r, s.pse.records.get i = some r →
              (r.state = .assembling → (s.pse.gap : Int) ≤ (k - r.lastCycle).toInt →
                t.pse.records.get i = some { r with state := .incomplete } ∧ t.panel.pending.getLsbD 8 = true)
              ∧ (¬ (r.state = .assembling ∧ (s.pse.gap : Int) ≤ (k - r.lastCycle).toInt) → t.pse.records.get i = some r))
          ∧ (∀ i, s.pse.records.get i = none → t.pse.records.get i = none))
      ∧ (s.ctn.state ∉ [.aligned, .run] → t.axe = (closed m).axe ∧ t.tgu = (closed m).tgu ∧ t.pse.records = s.pse.records
          ∧ (both = false → t.axe = m.axe ∧ t.tgu = m.tgu))
end

