-- ==== Sys2Proof/Laws/Commands.lean ====
section
/-! SUPPORT. What becomes of a command on a serial port, said once: the three cases of `State.command`, and the first two of a
streaming command. -/

namespace Sys2Proof.Machine

variable (s : State) (p : SerialPort) (code : Byte) (act : State → Answer)

/-- The three outcomes of an arrival (R172, R174, R181). -/
theorem State.arrival_cases :
    (s.arrival p code = .ignored ∧ (s.hold ≠ none ∨ (s.serial p).tr.ready code = false))
    ∨ (s.arrival p code = .denied ∧ s.hold = none ∧ (s.serial p).tr.ready code = true ∧ permitted p code = false)
    ∨ (s.arrival p code = .taken ∧ s.Arrives p code) := by
  unfold State.arrival State.Arrives State.live
  cases h : s.hold <;> cases r : (s.serial p).tr.ready code <;> cases q : permitted p code <;> simp

/-- A command that arrives and is permitted is taken. -/
theorem State.arrival_of_arrives (h : s.Arrives p code) : s.arrival p code = .taken := by
  simp [State.arrival, State.live, h.1, h.2.1, h.2.2]

/-- A command that cannot arrive is ignored. -/
theorem State.arrival_of_unready (h : s.hold ≠ none ∨ (s.serial p).tr.ready code = false) :
    s.arrival p code = .ignored := by
  obtain ⟨h', -⟩ | ⟨-, h1, h2, -⟩ | ⟨-, h1, -, h2⟩ := s.arrival_cases p code
  · exact h'
  · simp [h1, h2] at h
  · simp [h1, h2] at h

/-- A taken command leaves what its action leaves, answered on its port (R175). -/
theorem State.command_of_arrives (h : s.Arrives p code) :
    s.command p code act = (act s).state.respond p code (act s).status (act s).content := by
  simp [State.command, s.arrival_of_arrives p code h]

/-- A command that cannot arrive changes nothing. -/
theorem State.command_of_unready (h : s.hold ≠ none ∨ (s.serial p).tr.ready code = false) :
    s.command p code act = s := by
  simp [State.command, s.arrival_of_unready p code h]

/-- A command not permitted on its port is answered DENIED (R174). -/
theorem State.command_of_denied (h : s.hold = none) (hr : (s.serial p).tr.ready code = true) (hp : permitted p code = false) :
    s.command p code act = s.respond p code .denied [] := by
  simp [State.command, State.arrival, State.live, h, hr, hp]

/-- A refused command changes nothing but its port's transaction record (R175). -/
theorem State.command_of_refused (h : s.Arrives p code) (st : Status) (ha : act s = s.refuse st) :
    s.command p code act = s.respond p code st [] := by
  rw [s.command_of_arrives p code act h, ha]; rfl

end Sys2Proof.Machine
end

