-- ==== Sys2Proof/Laws/State.lean ====
section
/-! SUPPORT. What each update of the state does to each field of it: one conjunction per update, true by `rfl`, which `simp` reads
as one rewriting rule per field. -/

namespace Sys2Proof.Machine

variable (s : State)

@[simp] theorem State.onFpf_fields (g : Fpf → Fpf) :
    (s.onFpf g).tick = s.tick ∧ (s.onFpf g).hold = s.hold ∧ (s.onFpf g).fpf = g s.fpf
    ∧ (s.onFpf g).ctn = s.ctn ∧ (s.onFpf g).cfe = s.cfe ∧ (s.onFpf g).lu = s.lu
    ∧ (s.onFpf g).axe = s.axe ∧ (s.onFpf g).tru = s.tru ∧ (s.onFpf g).tgu = s.tgu
    ∧ (s.onFpf g).pse = s.pse ∧ (s.onFpf g).teu = s.teu ∧ (s.onFpf g).drive = s.drive
    ∧ (s.onFpf g).panel = s.panel ∧ (s.onFpf g).reads = s.reads ∧ (s.onFpf g).cause = s.cause
    ∧ (s.onFpf g).free = s.free ∧ (s.onFpf g).pending = s.pending := by
  and_intros <;> rfl

@[simp] theorem State.onCtn_fields (g : Ctn → Ctn) :
    (s.onCtn g).tick = s.tick ∧ (s.onCtn g).hold = s.hold ∧ (s.onCtn g).fpf = s.fpf
    ∧ (s.onCtn g).ctn = g s.ctn ∧ (s.onCtn g).cfe = s.cfe ∧ (s.onCtn g).lu = s.lu
    ∧ (s.onCtn g).axe = s.axe ∧ (s.onCtn g).tru = s.tru ∧ (s.onCtn g).tgu = s.tgu
    ∧ (s.onCtn g).pse = s.pse ∧ (s.onCtn g).teu = s.teu ∧ (s.onCtn g).drive = s.drive
    ∧ (s.onCtn g).panel = s.panel ∧ (s.onCtn g).reads = s.reads ∧ (s.onCtn g).cause = s.cause
    ∧ (s.onCtn g).free = s.free ∧ (s.onCtn g).pending = s.pending := by
  and_intros <;> rfl

@[simp] theorem State.onCfe_fields (g : Cfe → Cfe) :
    (s.onCfe g).tick = s.tick ∧ (s.onCfe g).hold = s.hold ∧ (s.onCfe g).fpf = s.fpf
    ∧ (s.onCfe g).ctn = s.ctn ∧ (s.onCfe g).cfe = g s.cfe ∧ (s.onCfe g).lu = s.lu
    ∧ (s.onCfe g).axe = s.axe ∧ (s.onCfe g).tru = s.tru ∧ (s.onCfe g).tgu = s.tgu
    ∧ (s.onCfe g).pse = s.pse ∧ (s.onCfe g).teu = s.teu ∧ (s.onCfe g).drive = s.drive
    ∧ (s.onCfe g).panel = s.panel ∧ (s.onCfe g).reads = s.reads ∧ (s.onCfe g).cause = s.cause
    ∧ (s.onCfe g).free = s.free ∧ (s.onCfe g).pending = s.pending := by
  and_intros <;> rfl

@[simp] theorem State.onLu_fields (g : LineUnit → LineUnit) :
    (s.onLu g).tick = s.tick ∧ (s.onLu g).hold = s.hold ∧ (s.onLu g).fpf = s.fpf
    ∧ (s.onLu g).ctn = s.ctn ∧ (s.onLu g).cfe = s.cfe ∧ (s.onLu g).lu = g s.lu
    ∧ (s.onLu g).axe = s.axe ∧ (s.onLu g).tru = s.tru ∧ (s.onLu g).tgu = s.tgu
    ∧ (s.onLu g).pse = s.pse ∧ (s.onLu g).teu = s.teu ∧ (s.onLu g).drive = s.drive
    ∧ (s.onLu g).panel = s.panel ∧ (s.onLu g).reads = s.reads ∧ (s.onLu g).cause = s.cause
    ∧ (s.onLu g).free = s.free ∧ (s.onLu g).pending = s.pending := by
  and_intros <;> rfl

@[simp] theorem State.onAxe_fields (g : AxisEngine → AxisEngine) :
    (s.onAxe g).tick = s.tick ∧ (s.onAxe g).hold = s.hold ∧ (s.onAxe g).fpf = s.fpf
    ∧ (s.onAxe g).ctn = s.ctn ∧ (s.onAxe g).cfe = s.cfe ∧ (s.onAxe g).lu = s.lu
    ∧ (s.onAxe g).axe = g s.axe ∧ (s.onAxe g).tru = s.tru ∧ (s.onAxe g).tgu = s.tgu
    ∧ (s.onAxe g).pse = s.pse ∧ (s.onAxe g).teu = s.teu ∧ (s.onAxe g).drive = s.drive
    ∧ (s.onAxe g).panel = s.panel ∧ (s.onAxe g).reads = s.reads ∧ (s.onAxe g).cause = s.cause
    ∧ (s.onAxe g).free = s.free ∧ (s.onAxe g).pending = s.pending := by
  and_intros <;> rfl

@[simp] theorem State.onTru_fields (g : TripUnit → TripUnit) :
    (s.onTru g).tick = s.tick ∧ (s.onTru g).hold = s.hold ∧ (s.onTru g).fpf = s.fpf
    ∧ (s.onTru g).ctn = s.ctn ∧ (s.onTru g).cfe = s.cfe ∧ (s.onTru g).lu = s.lu
    ∧ (s.onTru g).axe = s.axe ∧ (s.onTru g).tru = g s.tru ∧ (s.onTru g).tgu = s.tgu
    ∧ (s.onTru g).pse = s.pse ∧ (s.onTru g).teu = s.teu ∧ (s.onTru g).drive = s.drive
    ∧ (s.onTru g).panel = s.panel ∧ (s.onTru g).reads = s.reads ∧ (s.onTru g).cause = s.cause
    ∧ (s.onTru g).free = s.free ∧ (s.onTru g).pending = s.pending := by
  and_intros <;> rfl

@[simp] theorem State.onTgu_fields (g : TriggerUnit → TriggerUnit) :
    (s.onTgu g).tick = s.tick ∧ (s.onTgu g).hold = s.hold ∧ (s.onTgu g).fpf = s.fpf
    ∧ (s.onTgu g).ctn = s.ctn ∧ (s.onTgu g).cfe = s.cfe ∧ (s.onTgu g).lu = s.lu
    ∧ (s.onTgu g).axe = s.axe ∧ (s.onTgu g).tru = s.tru ∧ (s.onTgu g).tgu = g s.tgu
    ∧ (s.onTgu g).pse = s.pse ∧ (s.onTgu g).teu = s.teu ∧ (s.onTgu g).drive = s.drive
    ∧ (s.onTgu g).panel = s.panel ∧ (s.onTgu g).reads = s.reads ∧ (s.onTgu g).cause = s.cause
    ∧ (s.onTgu g).free = s.free ∧ (s.onTgu g).pending = s.pending := by
  and_intros <;> rfl

@[simp] theorem State.onPse_fields (g : PacketStore → PacketStore) :
    (s.onPse g).tick = s.tick ∧ (s.onPse g).hold = s.hold ∧ (s.onPse g).fpf = s.fpf
    ∧ (s.onPse g).ctn = s.ctn ∧ (s.onPse g).cfe = s.cfe ∧ (s.onPse g).lu = s.lu
    ∧ (s.onPse g).axe = s.axe ∧ (s.onPse g).tru = s.tru ∧ (s.onPse g).tgu = s.tgu
    ∧ (s.onPse g).pse = g s.pse ∧ (s.onPse g).teu = s.teu ∧ (s.onPse g).drive = s.drive
    ∧ (s.onPse g).panel = s.panel ∧ (s.onPse g).reads = s.reads ∧ (s.onPse g).cause = s.cause
    ∧ (s.onPse g).free = s.free ∧ (s.onPse g).pending = s.pending := by
  and_intros <;> rfl

@[simp] theorem State.onTeu_fields (g : TileUnit → TileUnit) :
    (s.onTeu g).tick = s.tick ∧ (s.onTeu g).hold = s.hold ∧ (s.onTeu g).fpf = s.fpf
    ∧ (s.onTeu g).ctn = s.ctn ∧ (s.onTeu g).cfe = s.cfe ∧ (s.onTeu g).lu = s.lu
    ∧ (s.onTeu g).axe = s.axe ∧ (s.onTeu g).tru = s.tru ∧ (s.onTeu g).tgu = s.tgu
    ∧ (s.onTeu g).pse = s.pse ∧ (s.onTeu g).teu = g s.teu ∧ (s.onTeu g).drive = s.drive
    ∧ (s.onTeu g).panel = s.panel ∧ (s.onTeu g).reads = s.reads ∧ (s.onTeu g).cause = s.cause
    ∧ (s.onTeu g).free = s.free ∧ (s.onTeu g).pending = s.pending := by
  and_intros <;> rfl

@[simp] theorem State.onFol_fields (g : Follower → Follower) :
    (s.onFol g).tick = s.tick ∧ (s.onFol g).hold = s.hold ∧ (s.onFol g).fpf = s.fpf
    ∧ (s.onFol g).ctn = { s.ctn with fol := g s.ctn.fol } ∧ (s.onFol g).cfe = s.cfe ∧ (s.onFol g).lu = s.lu
    ∧ (s.onFol g).axe = s.axe ∧ (s.onFol g).tru = s.tru ∧ (s.onFol g).tgu = s.tgu
    ∧ (s.onFol g).pse = s.pse ∧ (s.onFol g).teu = s.teu ∧ (s.onFol g).drive = s.drive
    ∧ (s.onFol g).panel = s.panel ∧ (s.onFol g).reads = s.reads ∧ (s.onFol g).cause = s.cause
    ∧ (s.onFol g).free = s.free ∧ (s.onFol g).pending = s.pending := by
  and_intros <;> rfl

@[simp] theorem State.onLine_fields (g : LineTiming → LineTiming) :
    (s.onLine g).tick = s.tick ∧ (s.onLine g).hold = s.hold ∧ (s.onLine g).fpf = s.fpf
    ∧ (s.onLine g).ctn = { s.ctn with line := g s.ctn.line } ∧ (s.onLine g).cfe = s.cfe ∧ (s.onLine g).lu = s.lu
    ∧ (s.onLine g).axe = s.axe ∧ (s.onLine g).tru = s.tru ∧ (s.onLine g).tgu = s.tgu
    ∧ (s.onLine g).pse = s.pse ∧ (s.onLine g).teu = s.teu ∧ (s.onLine g).drive = s.drive
    ∧ (s.onLine g).panel = s.panel ∧ (s.onLine g).reads = s.reads ∧ (s.onLine g).cause = s.cause
    ∧ (s.onLine g).free = s.free ∧ (s.onLine g).pending = s.pending := by
  and_intros <;> rfl

@[simp] theorem State.raiseDrive_fields (e : DriveEvent) :
    (s.raiseDrive e).tick = s.tick ∧ (s.raiseDrive e).hold = s.hold ∧ (s.raiseDrive e).fpf = s.fpf
    ∧ (s.raiseDrive e).ctn = s.ctn ∧ (s.raiseDrive e).cfe = s.cfe ∧ (s.raiseDrive e).lu = s.lu
    ∧ (s.raiseDrive e).axe = s.axe ∧ (s.raiseDrive e).tru = s.tru ∧ (s.raiseDrive e).tgu = s.tgu
    ∧ (s.raiseDrive e).pse = s.pse ∧ (s.raiseDrive e).teu = s.teu ∧ (s.raiseDrive e).drive = { s.drive with pending := setBit s.drive.pending e.bit }
    ∧ (s.raiseDrive e).panel = s.panel ∧ (s.raiseDrive e).reads = s.reads ∧ (s.raiseDrive e).cause = s.cause
    ∧ (s.raiseDrive e).free = s.free ∧ (s.raiseDrive e).pending = s.pending := by
  and_intros <;> rfl

@[simp] theorem State.raisePanel_fields (e : PanelEvent) :
    (s.raisePanel e).tick = s.tick ∧ (s.raisePanel e).hold = s.hold ∧ (s.raisePanel e).fpf = s.fpf
    ∧ (s.raisePanel e).ctn = s.ctn ∧ (s.raisePanel e).cfe = s.cfe ∧ (s.raisePanel e).lu = s.lu
    ∧ (s.raisePanel e).axe = s.axe ∧ (s.raisePanel e).tru = s.tru ∧ (s.raisePanel e).tgu = s.tgu
    ∧ (s.raisePanel e).pse = s.pse ∧ (s.raisePanel e).teu = s.teu ∧ (s.raisePanel e).drive = s.drive
    ∧ (s.raisePanel e).panel = { s.panel with pending := setBit s.panel.pending e.bit } ∧ (s.raisePanel e).reads = s.reads ∧ (s.raisePanel e).cause = s.cause
    ∧ (s.raisePanel e).free = s.free ∧ (s.raisePanel e).pending = s.pending := by
  and_intros <;> rfl

@[simp] theorem State.raiseTripChange_fields :
    (s.raiseTripChange).tick = s.tick ∧ (s.raiseTripChange).hold = s.hold ∧ (s.raiseTripChange).fpf = s.fpf
    ∧ (s.raiseTripChange).ctn = s.ctn ∧ (s.raiseTripChange).cfe = s.cfe ∧ (s.raiseTripChange).lu = s.lu
    ∧ (s.raiseTripChange).axe = s.axe ∧ (s.raiseTripChange).tru = s.tru ∧ (s.raiseTripChange).tgu = s.tgu
    ∧ (s.raiseTripChange).pse = s.pse ∧ (s.raiseTripChange).teu = s.teu ∧ (s.raiseTripChange).drive = { s.drive with pending := setBit s.drive.pending (DriveEvent.tripChange).bit }
    ∧ (s.raiseTripChange).panel = { s.panel with pending := setBit s.panel.pending (PanelEvent.tripChange).bit } ∧ (s.raiseTripChange).reads = s.reads ∧ (s.raiseTripChange).cause = s.cause
    ∧ (s.raiseTripChange).free = s.free ∧ (s.raiseTripChange).pending = s.pending := by
  and_intros <;> rfl

@[simp] theorem State.raiseTripActive_fields :
    (s.raiseTripActive).tick = s.tick ∧ (s.raiseTripActive).hold = s.hold ∧ (s.raiseTripActive).fpf = s.fpf
    ∧ (s.raiseTripActive).ctn = s.ctn ∧ (s.raiseTripActive).cfe = s.cfe ∧ (s.raiseTripActive).lu = s.lu
    ∧ (s.raiseTripActive).axe = s.axe ∧ (s.raiseTripActive).tru = s.tru ∧ (s.raiseTripActive).tgu = s.tgu
    ∧ (s.raiseTripActive).pse = s.pse ∧ (s.raiseTripActive).teu = s.teu ∧ (s.raiseTripActive).drive = { s.drive with pending := setBit s.drive.pending (DriveEvent.tripActive).bit }
    ∧ (s.raiseTripActive).panel = { s.panel with pending := setBit s.panel.pending (PanelEvent.tripActive).bit } ∧ (s.raiseTripActive).reads = s.reads ∧ (s.raiseTripActive).cause = s.cause
    ∧ (s.raiseTripActive).free = s.free ∧ (s.raiseTripActive).pending = s.pending := by
  and_intros <;> rfl

@[simp] theorem State.onFibre_fields (p : FibrePort) (g : Fibre → Fibre) :
    (s.onFibre p g).tick = s.tick ∧ (s.onFibre p g).hold = s.hold ∧ (s.onFibre p g).ctn = s.ctn
    ∧ (s.onFibre p g).cfe = s.cfe ∧ (s.onFibre p g).lu = s.lu ∧ (s.onFibre p g).axe = s.axe
    ∧ (s.onFibre p g).tru = s.tru ∧ (s.onFibre p g).tgu = s.tgu ∧ (s.onFibre p g).pse = s.pse
    ∧ (s.onFibre p g).teu = s.teu ∧ (s.onFibre p g).drive = s.drive ∧ (s.onFibre p g).panel = s.panel
    ∧ (s.onFibre p g).reads = s.reads ∧ (s.onFibre p g).cause = s.cause ∧ (s.onFibre p g).free = s.free
    ∧ (s.onFibre p g).pending = s.pending := by
  cases p <;> and_intros <;> rfl

@[simp] theorem State.onSerial_fields (p : SerialPort) (g : Serial → Serial) :
    (s.onSerial p g).tick = s.tick ∧ (s.onSerial p g).hold = s.hold ∧ (s.onSerial p g).fpf = s.fpf
    ∧ (s.onSerial p g).ctn = s.ctn ∧ (s.onSerial p g).cfe = s.cfe ∧ (s.onSerial p g).lu = s.lu
    ∧ (s.onSerial p g).axe = s.axe ∧ (s.onSerial p g).tru = s.tru ∧ (s.onSerial p g).tgu = s.tgu
    ∧ (s.onSerial p g).pse = s.pse ∧ (s.onSerial p g).teu = s.teu ∧ (s.onSerial p g).reads = s.reads
    ∧ (s.onSerial p g).cause = s.cause ∧ (s.onSerial p g).free = s.free ∧ (s.onSerial p g).pending = s.pending := by
  cases p <;> and_intros <;> rfl

@[simp] theorem State.raiseFraming_fields (p : SerialPort) :
    (s.raiseFraming p).tick = s.tick ∧ (s.raiseFraming p).hold = s.hold ∧ (s.raiseFraming p).fpf = s.fpf
    ∧ (s.raiseFraming p).ctn = s.ctn ∧ (s.raiseFraming p).cfe = s.cfe ∧ (s.raiseFraming p).lu = s.lu
    ∧ (s.raiseFraming p).axe = s.axe ∧ (s.raiseFraming p).tru = s.tru ∧ (s.raiseFraming p).tgu = s.tgu
    ∧ (s.raiseFraming p).pse = s.pse ∧ (s.raiseFraming p).teu = s.teu ∧ (s.raiseFraming p).reads = s.reads
    ∧ (s.raiseFraming p).cause = s.cause ∧ (s.raiseFraming p).free = s.free ∧ (s.raiseFraming p).pending = s.pending := by
  cases p <;> and_intros <;> rfl

@[simp] theorem State.reach_fields (t : Word) :
    (s.reach t).hold = s.hold ∧ (s.reach t).fpf = s.fpf ∧ (s.reach t).ctn = s.ctn
    ∧ (s.reach t).cfe = s.cfe ∧ (s.reach t).lu = s.lu ∧ (s.reach t).axe = s.axe
    ∧ (s.reach t).tru = s.tru ∧ (s.reach t).tgu = s.tgu ∧ (s.reach t).pse = s.pse
    ∧ (s.reach t).teu = s.teu ∧ (s.reach t).drive = s.drive ∧ (s.reach t).panel = s.panel
    ∧ (s.reach t).reads = s.reads ∧ (s.reach t).cause = s.cause ∧ (s.reach t).free = s.free
    ∧ (s.reach t).pending = s.pending := by
  unfold State.reach; split <;> and_intros <;> rfl

@[simp] theorem State.recomputeRoutes_fields :
    (s.recomputeRoutes).tick = s.tick ∧ (s.recomputeRoutes).hold = s.hold ∧ (s.recomputeRoutes).ctn = s.ctn
    ∧ (s.recomputeRoutes).cfe = s.cfe ∧ (s.recomputeRoutes).lu = s.lu ∧ (s.recomputeRoutes).axe = s.axe
    ∧ (s.recomputeRoutes).tru = s.tru ∧ (s.recomputeRoutes).tgu = s.tgu ∧ (s.recomputeRoutes).pse = s.pse
    ∧ (s.recomputeRoutes).teu = s.teu ∧ (s.recomputeRoutes).drive = s.drive ∧ (s.recomputeRoutes).panel = s.panel
    ∧ (s.recomputeRoutes).reads = s.reads ∧ (s.recomputeRoutes).cause = s.cause ∧ (s.recomputeRoutes).free = s.free
    ∧ (s.recomputeRoutes).pending = s.pending := by
  and_intros <;> rfl

/-- The fibre port that an update names, and the other one. -/
@[simp] theorem State.onFibre_fibre_same (p : FibrePort) (g : Fibre → Fibre) : (s.onFibre p g).fibre p = g (s.fibre p) := by
  cases p <;> rfl

@[simp] theorem State.onFibre_fibre_other (p : FibrePort) (g : Fibre → Fibre) :
    (s.onFibre p g).fibre p.other = s.fibre p.other := by
  cases p <;> rfl

/-- The counts and the route table stand through an update of a port. -/
@[simp] theorem State.onFibre_shared (p : FibrePort) (g : Fibre → Fibre) :
    (s.onFibre p g).fpf.drops = s.fpf.drops ∧ (s.onFibre p g).fpf.routes = s.fpf.routes := by
  cases p <;> and_intros <;> rfl

@[simp] theorem State.onSerial_serial_same (p : SerialPort) (g : Serial → Serial) :
    (s.onSerial p g).serial p = g (s.serial p) := by
  cases p <;> rfl

/-- A field that an operation keeps is kept by its conditional run. -/
theorem State.when_keeps {α : Type} (x : State → α) (c : Bool) (f : State → State) (h : x (f s) = x s) :
    x (s.when c f) = x s := by
  unfold State.when; split
  · exact h
  · rfl

@[simp] theorem State.when_true (f : State → State) : s.when true f = f s := rfl
@[simp] theorem State.when_false (f : State → State) : s.when false f = s := rfl

/-- A field that every turn of a fold keeps is kept by the fold. -/
theorem foldl_keeps {α β : Type} (x : State → α) (f : State → β → State) (h : ∀ s b, x (f s b) = x s) (l : List β) (s : State) :
    x (l.foldl f s) = x s := by
  induction l generalizing s with
  | nil => rfl
  | cons b l ih => rw [List.foldl_cons, ih, h]

/-- The same of a field of the cycle timer and node state. -/
theorem foldl_keepsCtn {α β : Type} (x : Ctn → α) (f : State → β → State) (h : ∀ s b, x (f s b).ctn = x s.ctn) (l : List β)
    (s : State) : x (l.foldl f s).ctn = x s.ctn := foldl_keeps (fun s => x s.ctn) f h l s

end Sys2Proof.Machine
end

