-- ==== Sys2Proof/Laws/Frames.lean ====
section
/-! SUPPORT. What each shared operation keeps: the fields of the state that it never changes, and those of the cycle timer and node
state where it changes some of them; one conjunction per operation, which `simp` reads as one rewriting rule per field. -/

namespace Sys2Proof.Machine

variable (s : State)

@[simp] theorem State.drop_keeps :
    s.drop.tick = s.tick ∧ s.drop.hold = s.hold ∧ s.drop.ctn = s.ctn ∧ s.drop.cfe = s.cfe ∧ s.drop.lu = s.lu
    ∧ s.drop.axe = s.axe ∧ s.drop.tru = s.tru ∧ s.drop.tgu = s.tgu ∧ s.drop.pse = s.pse ∧ s.drop.teu = s.teu
    ∧ s.drop.drive = s.drive ∧ s.drop.panel = s.panel ∧ s.drop.reads = s.reads ∧ s.drop.cause = s.cause
    ∧ s.drop.free = s.free ∧ s.drop.pending = s.pending := by
  simp [State.drop]

@[simp] theorem State.discard_keeps (o : OutFrame) :
    (s.discard o).tick = s.tick ∧ (s.discard o).hold = s.hold ∧ (s.discard o).ctn = s.ctn ∧ (s.discard o).cfe = s.cfe
    ∧ (s.discard o).lu = s.lu ∧ (s.discard o).axe = s.axe ∧ (s.discard o).tru = s.tru ∧ (s.discard o).tgu = s.tgu
    ∧ (s.discard o).pse = s.pse ∧ (s.discard o).teu = s.teu ∧ (s.discard o).drive = s.drive ∧ (s.discard o).panel = s.panel
    ∧ (s.discard o).reads = s.reads ∧ (s.discard o).cause = s.cause ∧ (s.discard o).free = s.free
    ∧ (s.discard o).pending = s.pending := by
  and_intros <;> (simp only [State.discard]; (repeat' split) <;> simp)

@[simp] theorem State.departed_keeps (o : OutFrame) (t : Word) :
    (s.departed o t).tick = s.tick ∧ (s.departed o t).hold = s.hold ∧ (s.departed o t).fpf = s.fpf
    ∧ (s.departed o t).ctn.state = s.ctn.state ∧ (s.departed o t).ctn.config = s.ctn.config
    ∧ (s.departed o t).ctn.limits = s.ctn.limits ∧ (s.departed o t).ctn.boundary = s.ctn.boundary
    ∧ (s.departed o t).ctn.next = s.ctn.next ∧ (s.departed o t).ctn.idleSince = s.ctn.idleSince
    ∧ (s.departed o t).ctn.cycle = s.ctn.cycle ∧ (s.departed o t).ctn.plan = s.ctn.plan
    ∧ (s.departed o t).ctn.breakIx = s.ctn.breakIx ∧ (s.departed o t).ctn.fol = s.ctn.fol
    ∧ (s.departed o t).ctn.window = s.ctn.window ∧ (s.departed o t).ctn.windowClose = s.ctn.windowClose
    ∧ (s.departed o t).cfe = s.cfe ∧ (s.departed o t).lu = s.lu ∧ (s.departed o t).axe = s.axe
    ∧ (s.departed o t).tru = s.tru ∧ (s.departed o t).tgu = s.tgu ∧ (s.departed o t).pse = s.pse
    ∧ (s.departed o t).teu = s.teu ∧ (s.departed o t).drive = s.drive ∧ (s.departed o t).panel = s.panel
    ∧ (s.departed o t).reads = s.reads ∧ (s.departed o t).cause = s.cause ∧ (s.departed o t).free = s.free
    ∧ (s.departed o t).pending = s.pending := by
  and_intros <;> (simp only [State.departed]; (repeat' split) <;> simp)

@[simp] theorem State.recalled_keeps (o : OutFrame) :
    (s.recalled o).tick = s.tick ∧ (s.recalled o).hold = s.hold ∧ (s.recalled o).fpf = s.fpf
    ∧ (s.recalled o).ctn.state = s.ctn.state ∧ (s.recalled o).ctn.config = s.ctn.config
    ∧ (s.recalled o).ctn.limits = s.ctn.limits ∧ (s.recalled o).ctn.boundary = s.ctn.boundary
    ∧ (s.recalled o).ctn.next = s.ctn.next ∧ (s.recalled o).ctn.idleSince = s.ctn.idleSince
    ∧ (s.recalled o).ctn.cycle = s.ctn.cycle ∧ (s.recalled o).ctn.plan = s.ctn.plan
    ∧ (s.recalled o).ctn.breakIx = s.ctn.breakIx ∧ (s.recalled o).ctn.fol = s.ctn.fol
    ∧ (s.recalled o).ctn.window = s.ctn.window ∧ (s.recalled o).ctn.windowClose = s.ctn.windowClose
    ∧ (s.recalled o).cfe = s.cfe ∧ (s.recalled o).lu = s.lu ∧ (s.recalled o).axe = s.axe ∧ (s.recalled o).tru = s.tru
    ∧ (s.recalled o).tgu = s.tgu ∧ (s.recalled o).pse = s.pse ∧ (s.recalled o).teu = s.teu ∧ (s.recalled o).drive = s.drive
    ∧ (s.recalled o).panel = s.panel ∧ (s.recalled o).reads = s.reads ∧ (s.recalled o).cause = s.cause
    ∧ (s.recalled o).free = s.free ∧ (s.recalled o).pending = s.pending := by
  and_intros <;> (simp only [State.recalled]; (repeat' split) <;> simp)

@[simp] theorem State.transmit_keeps (p : FibrePort) (o : OutFrame) (t : Word) (n : Nat) (u : Option Word) :
    (s.transmit p o t n u).tick = s.tick ∧ (s.transmit p o t n u).hold = s.hold
    ∧ (s.transmit p o t n u).ctn.state = s.ctn.state ∧ (s.transmit p o t n u).ctn.config = s.ctn.config
    ∧ (s.transmit p o t n u).ctn.limits = s.ctn.limits ∧ (s.transmit p o t n u).ctn.boundary = s.ctn.boundary
    ∧ (s.transmit p o t n u).ctn.next = s.ctn.next ∧ (s.transmit p o t n u).ctn.idleSince = s.ctn.idleSince
    ∧ (s.transmit p o t n u).ctn.cycle = s.ctn.cycle ∧ (s.transmit p o t n u).ctn.plan = s.ctn.plan
    ∧ (s.transmit p o t n u).ctn.breakIx = s.ctn.breakIx ∧ (s.transmit p o t n u).ctn.fol = s.ctn.fol
    ∧ (s.transmit p o t n u).ctn.window = s.ctn.window ∧ (s.transmit p o t n u).ctn.windowClose = s.ctn.windowClose
    ∧ (s.transmit p o t n u).cfe = s.cfe ∧ (s.transmit p o t n u).lu = s.lu ∧ (s.transmit p o t n u).axe = s.axe
    ∧ (s.transmit p o t n u).tru = s.tru ∧ (s.transmit p o t n u).tgu = s.tgu ∧ (s.transmit p o t n u).pse = s.pse
    ∧ (s.transmit p o t n u).teu = s.teu ∧ (s.transmit p o t n u).drive = s.drive ∧ (s.transmit p o t n u).panel = s.panel
    ∧ (s.transmit p o t n u).reads = s.reads ∧ (s.transmit p o t n u).cause = s.cause ∧ (s.transmit p o t n u).free = s.free
    ∧ (s.transmit p o t n u).pending = s.pending := by
  simp [State.transmit]

@[simp] theorem State.enqueue_keeps (p : FibrePort) (o : OutFrame) (t : Word) :
    (s.enqueue p o t).tick = s.tick ∧ (s.enqueue p o t).hold = s.hold ∧ (s.enqueue p o t).ctn = s.ctn
    ∧ (s.enqueue p o t).cfe = s.cfe ∧ (s.enqueue p o t).lu = s.lu ∧ (s.enqueue p o t).axe = s.axe
    ∧ (s.enqueue p o t).tru = s.tru ∧ (s.enqueue p o t).tgu = s.tgu ∧ (s.enqueue p o t).pse = s.pse
    ∧ (s.enqueue p o t).teu = s.teu ∧ (s.enqueue p o t).drive = s.drive ∧ (s.enqueue p o t).panel = s.panel
    ∧ (s.enqueue p o t).reads = s.reads ∧ (s.enqueue p o t).cause = s.cause ∧ (s.enqueue p o t).free = s.free
    ∧ (s.enqueue p o t).pending = s.pending := by
  simp [State.enqueue]

@[simp] theorem State.await_keeps (p : FibrePort) (o : OutFrame) (t : Word) :
    (s.await p o t).tick = s.tick ∧ (s.await p o t).hold = s.hold ∧ (s.await p o t).ctn = s.ctn
    ∧ (s.await p o t).cfe = s.cfe ∧ (s.await p o t).lu = s.lu ∧ (s.await p o t).axe = s.axe ∧ (s.await p o t).tru = s.tru
    ∧ (s.await p o t).tgu = s.tgu ∧ (s.await p o t).pse = s.pse ∧ (s.await p o t).teu = s.teu
    ∧ (s.await p o t).drive = s.drive ∧ (s.await p o t).panel = s.panel ∧ (s.await p o t).reads = s.reads
    ∧ (s.await p o t).cause = s.cause ∧ (s.await p o t).free = s.free ∧ (s.await p o t).pending = s.pending := by
  and_intros <;> (simp only [State.await]; (repeat' split) <;> simp)

@[simp] theorem State.putStrip_keeps (h : Fin 16) (x : Strip) :
    (s.putStrip h x).tick = s.tick ∧ (s.putStrip h x).hold = s.hold ∧ (s.putStrip h x).fpf = s.fpf
    ∧ (s.putStrip h x).ctn = s.ctn ∧ (s.putStrip h x).cfe = s.cfe ∧ (s.putStrip h x).lu = s.lu
    ∧ (s.putStrip h x).axe = s.axe ∧ (s.putStrip h x).tru = s.tru ∧ (s.putStrip h x).tgu = s.tgu
    ∧ (s.putStrip h x).teu = s.teu ∧ (s.putStrip h x).drive = s.drive ∧ (s.putStrip h x).panel = s.panel
    ∧ (s.putStrip h x).reads = s.reads ∧ (s.putStrip h x).cause = s.cause ∧ (s.putStrip h x).free = s.free
    ∧ (s.putStrip h x).pending = s.pending := by
  simp [State.putStrip]

@[simp] theorem State.leaveOrder_keeps (h : Fin 16) :
    (s.leaveOrder h).tick = s.tick ∧ (s.leaveOrder h).hold = s.hold ∧ (s.leaveOrder h).fpf = s.fpf
    ∧ (s.leaveOrder h).ctn = s.ctn ∧ (s.leaveOrder h).cfe = s.cfe ∧ (s.leaveOrder h).lu = s.lu
    ∧ (s.leaveOrder h).axe = s.axe ∧ (s.leaveOrder h).tru = s.tru ∧ (s.leaveOrder h).tgu = s.tgu
    ∧ (s.leaveOrder h).teu = s.teu ∧ (s.leaveOrder h).drive = s.drive ∧ (s.leaveOrder h).panel = s.panel
    ∧ (s.leaveOrder h).reads = s.reads ∧ (s.leaveOrder h).cause = s.cause ∧ (s.leaveOrder h).free = s.free
    ∧ (s.leaveOrder h).pending = s.pending := by
  simp [State.leaveOrder]

@[simp] theorem State.logStrip_keeps (id : Half) (stampId : Byte) (o : Completion) :
    (s.logStrip id stampId o).tick = s.tick ∧ (s.logStrip id stampId o).hold = s.hold
    ∧ (s.logStrip id stampId o).fpf = s.fpf ∧ (s.logStrip id stampId o).ctn = s.ctn ∧ (s.logStrip id stampId o).cfe = s.cfe
    ∧ (s.logStrip id stampId o).lu = s.lu ∧ (s.logStrip id stampId o).axe = s.axe ∧ (s.logStrip id stampId o).tru = s.tru
    ∧ (s.logStrip id stampId o).tgu = s.tgu ∧ (s.logStrip id stampId o).teu = s.teu
    ∧ (s.logStrip id stampId o).drive = s.drive ∧ (s.logStrip id stampId o).reads = s.reads
    ∧ (s.logStrip id stampId o).cause = s.cause ∧ (s.logStrip id stampId o).free = s.free
    ∧ (s.logStrip id stampId o).pending = s.pending := by
  simp [State.logStrip]

@[simp] theorem State.freeDescriptor_keeps (h : Fin 16) (x : Strip) (b : Bool) :
    (s.freeDescriptor h x b).tick = s.tick ∧ (s.freeDescriptor h x b).hold = s.hold ∧ (s.freeDescriptor h x b).fpf = s.fpf
    ∧ (s.freeDescriptor h x b).ctn = s.ctn ∧ (s.freeDescriptor h x b).cfe = s.cfe ∧ (s.freeDescriptor h x b).lu = s.lu
    ∧ (s.freeDescriptor h x b).axe = s.axe ∧ (s.freeDescriptor h x b).tru = s.tru ∧ (s.freeDescriptor h x b).tgu = s.tgu
    ∧ (s.freeDescriptor h x b).teu = s.teu ∧ (s.freeDescriptor h x b).drive = s.drive
    ∧ (s.freeDescriptor h x b).panel = s.panel ∧ (s.freeDescriptor h x b).reads = s.reads
    ∧ (s.freeDescriptor h x b).cause = s.cause ∧ (s.freeDescriptor h x b).free = s.free
    ∧ (s.freeDescriptor h x b).pending = s.pending := by
  simp [State.freeDescriptor]

@[simp] theorem State.endStrip_keeps (h : Fin 16) (x : Strip) (o : Completion) :
    (s.endStrip h x o).tick = s.tick ∧ (s.endStrip h x o).hold = s.hold ∧ (s.endStrip h x o).fpf = s.fpf
    ∧ (s.endStrip h x o).ctn = s.ctn ∧ (s.endStrip h x o).cfe = s.cfe ∧ (s.endStrip h x o).lu = s.lu
    ∧ (s.endStrip h x o).axe = s.axe ∧ (s.endStrip h x o).tru = s.tru ∧ (s.endStrip h x o).tgu = s.tgu
    ∧ (s.endStrip h x o).teu = s.teu ∧ (s.endStrip h x o).drive = s.drive ∧ (s.endStrip h x o).reads = s.reads
    ∧ (s.endStrip h x o).cause = s.cause ∧ (s.endStrip h x o).free = s.free ∧ (s.endStrip h x o).pending = s.pending := by
  simp [State.endStrip]

@[simp] theorem State.fragmentEnds_keeps (h : Fin 16) (x : Strip) (b : Bool) :
    (s.fragmentEnds h x b).tick = s.tick ∧ (s.fragmentEnds h x b).hold = s.hold ∧ (s.fragmentEnds h x b).fpf = s.fpf
    ∧ (s.fragmentEnds h x b).ctn = s.ctn ∧ (s.fragmentEnds h x b).cfe = s.cfe ∧ (s.fragmentEnds h x b).lu = s.lu
    ∧ (s.fragmentEnds h x b).axe = s.axe ∧ (s.fragmentEnds h x b).tru = s.tru ∧ (s.fragmentEnds h x b).tgu = s.tgu
    ∧ (s.fragmentEnds h x b).teu = s.teu ∧ (s.fragmentEnds h x b).drive = s.drive ∧ (s.fragmentEnds h x b).reads = s.reads
    ∧ (s.fragmentEnds h x b).cause = s.cause ∧ (s.fragmentEnds h x b).free = s.free ∧ (s.fragmentEnds h x b).pending = s.pending := by
  simp only [State.fragmentEnds]; (repeat' split) <;> simp

@[simp] theorem State.fragmentWithdrawn_keeps (h : Fin 16) (id : Half) (b : Bool) (n : Nat) :
    (s.fragmentWithdrawn h id b n).tick = s.tick ∧ (s.fragmentWithdrawn h id b n).hold = s.hold ∧ (s.fragmentWithdrawn h id b n).fpf = s.fpf
    ∧ (s.fragmentWithdrawn h id b n).ctn = s.ctn ∧ (s.fragmentWithdrawn h id b n).cfe = s.cfe ∧ (s.fragmentWithdrawn h id b n).lu = s.lu
    ∧ (s.fragmentWithdrawn h id b n).axe = s.axe ∧ (s.fragmentWithdrawn h id b n).tru = s.tru ∧ (s.fragmentWithdrawn h id b n).tgu = s.tgu
    ∧ (s.fragmentWithdrawn h id b n).teu = s.teu ∧ (s.fragmentWithdrawn h id b n).drive = s.drive
    ∧ (s.fragmentWithdrawn h id b n).reads = s.reads
    ∧ (s.fragmentWithdrawn h id b n).cause = s.cause ∧ (s.fragmentWithdrawn h id b n).free = s.free
    ∧ (s.fragmentWithdrawn h id b n).pending = s.pending := by
  simp only [State.fragmentWithdrawn]; (repeat' split) <;> simp

@[simp] theorem TileUnit.unstart_keeps (u : TileUnit) (q : Half) :
    (u.unstart q).posting = u.posting ∧ (u.unstart q).postSeq = u.postSeq ∧ (u.unstart q).broadcast = u.broadcast
    ∧ (u.unstart q).firstDue = u.firstDue ∧ (u.unstart q).incoming = u.incoming
    ∧ (u.unstart q).lastBroadcast = u.lastBroadcast ∧ (u.unstart q).repaint = u.repaint ∧ (u.unstart q).repaints = u.repaints
    ∧ (u.unstart q).lastPost = u.lastPost ∧ (u.unstart q).events = u.events ∧ (u.unstart q).carried = u.carried
    ∧ (u.unstart q).console = u.console ∧ (u.unstart q).lost = u.lost := by
  and_intros <;> (simp only [TileUnit.unstart]; (repeat' split) <;> rfl)

@[simp] theorem State.tileWithdrawn_keeps (q : Half) (n : Nat) :
    (s.tileWithdrawn q n).tick = s.tick ∧ (s.tileWithdrawn q n).hold = s.hold ∧ (s.tileWithdrawn q n).fpf = s.fpf
    ∧ (s.tileWithdrawn q n).ctn = s.ctn ∧ (s.tileWithdrawn q n).cfe = s.cfe ∧ (s.tileWithdrawn q n).lu = s.lu
    ∧ (s.tileWithdrawn q n).axe = s.axe ∧ (s.tileWithdrawn q n).tru = s.tru ∧ (s.tileWithdrawn q n).tgu = s.tgu
    ∧ (s.tileWithdrawn q n).panel = s.panel ∧ (s.tileWithdrawn q n).drive = s.drive ∧ (s.tileWithdrawn q n).reads = s.reads
    ∧ (s.tileWithdrawn q n).cause = s.cause ∧ (s.tileWithdrawn q n).free = s.free ∧ (s.tileWithdrawn q n).pending = s.pending := by
  simp [State.tileWithdrawn]

@[simp] theorem State.putBack_keeps (p : FibrePort) (x : Transmission) :
    (s.putBack p x).tick = s.tick ∧ (s.putBack p x).hold = s.hold ∧ (s.putBack p x).ctn.state = s.ctn.state
    ∧ (s.putBack p x).ctn.config = s.ctn.config ∧ (s.putBack p x).ctn.limits = s.ctn.limits
    ∧ (s.putBack p x).ctn.boundary = s.ctn.boundary ∧ (s.putBack p x).ctn.next = s.ctn.next
    ∧ (s.putBack p x).ctn.idleSince = s.ctn.idleSince ∧ (s.putBack p x).ctn.cycle = s.ctn.cycle
    ∧ (s.putBack p x).ctn.plan = s.ctn.plan ∧ (s.putBack p x).ctn.breakIx = s.ctn.breakIx ∧ (s.putBack p x).ctn.fol = s.ctn.fol
    ∧ (s.putBack p x).ctn.window = s.ctn.window ∧ (s.putBack p x).ctn.windowClose = s.ctn.windowClose
    ∧ (s.putBack p x).cfe = s.cfe ∧ (s.putBack p x).lu = s.lu ∧ (s.putBack p x).axe = s.axe ∧ (s.putBack p x).tru = s.tru
    ∧ (s.putBack p x).tgu = s.tgu ∧ (s.putBack p x).pse = s.pse ∧ (s.putBack p x).teu = s.teu ∧ (s.putBack p x).drive = s.drive
    ∧ (s.putBack p x).panel = s.panel ∧ (s.putBack p x).reads = s.reads ∧ (s.putBack p x).cause = s.cause
    ∧ (s.putBack p x).free = s.free ∧ (s.putBack p x).pending = s.pending := by
  and_intros <;> (simp only [State.putBack]; (repeat' split) <;> simp)

@[simp] theorem State.giveWay_keeps (p : FibrePort) :
    (s.giveWay p).tick = s.tick ∧ (s.giveWay p).hold = s.hold ∧ (s.giveWay p).ctn.state = s.ctn.state
    ∧ (s.giveWay p).ctn.config = s.ctn.config ∧ (s.giveWay p).ctn.limits = s.ctn.limits
    ∧ (s.giveWay p).ctn.boundary = s.ctn.boundary ∧ (s.giveWay p).ctn.next = s.ctn.next
    ∧ (s.giveWay p).ctn.idleSince = s.ctn.idleSince ∧ (s.giveWay p).ctn.cycle = s.ctn.cycle
    ∧ (s.giveWay p).ctn.plan = s.ctn.plan ∧ (s.giveWay p).ctn.breakIx = s.ctn.breakIx ∧ (s.giveWay p).ctn.fol = s.ctn.fol
    ∧ (s.giveWay p).ctn.window = s.ctn.window ∧ (s.giveWay p).ctn.windowClose = s.ctn.windowClose ∧ (s.giveWay p).cfe = s.cfe
    ∧ (s.giveWay p).lu = s.lu ∧ (s.giveWay p).axe = s.axe ∧ (s.giveWay p).tru = s.tru ∧ (s.giveWay p).tgu = s.tgu
    ∧ (s.giveWay p).drive = s.drive ∧ (s.giveWay p).reads = s.reads ∧ (s.giveWay p).cause = s.cause
    ∧ (s.giveWay p).free = s.free ∧ (s.giveWay p).pending = s.pending := by
  and_intros <;> (simp only [State.giveWay]; (repeat' split) <;> simp)

@[simp] theorem State.present_keeps (p : FibrePort) (o : OutFrame) (t : Word) :
    (s.present p o t).tick = s.tick ∧ (s.present p o t).hold = s.hold ∧ (s.present p o t).ctn.state = s.ctn.state
    ∧ (s.present p o t).ctn.config = s.ctn.config ∧ (s.present p o t).ctn.limits = s.ctn.limits
    ∧ (s.present p o t).ctn.boundary = s.ctn.boundary ∧ (s.present p o t).ctn.next = s.ctn.next
    ∧ (s.present p o t).ctn.idleSince = s.ctn.idleSince ∧ (s.present p o t).ctn.cycle = s.ctn.cycle
    ∧ (s.present p o t).ctn.plan = s.ctn.plan ∧ (s.present p o t).ctn.breakIx = s.ctn.breakIx
    ∧ (s.present p o t).ctn.fol = s.ctn.fol ∧ (s.present p o t).ctn.window = s.ctn.window
    ∧ (s.present p o t).ctn.windowClose = s.ctn.windowClose ∧ (s.present p o t).cfe = s.cfe ∧ (s.present p o t).lu = s.lu
    ∧ (s.present p o t).axe = s.axe ∧ (s.present p o t).tru = s.tru ∧ (s.present p o t).tgu = s.tgu
    ∧ (s.present p o t).drive = s.drive ∧ (s.present p o t).reads = s.reads ∧ (s.present p o t).cause = s.cause
    ∧ (s.present p o t).free = s.free ∧ (s.present p o t).pending = s.pending := by
  and_intros <;> (simp only [State.present]; (repeat' split) <;> simp)

@[simp] theorem State.sendOut_keeps (o : OutFrame) (t : Word) :
    (s.sendOut o t).tick = s.tick ∧ (s.sendOut o t).hold = s.hold ∧ (s.sendOut o t).ctn.state = s.ctn.state
    ∧ (s.sendOut o t).ctn.config = s.ctn.config ∧ (s.sendOut o t).ctn.limits = s.ctn.limits
    ∧ (s.sendOut o t).ctn.boundary = s.ctn.boundary ∧ (s.sendOut o t).ctn.next = s.ctn.next
    ∧ (s.sendOut o t).ctn.idleSince = s.ctn.idleSince ∧ (s.sendOut o t).ctn.cycle = s.ctn.cycle
    ∧ (s.sendOut o t).ctn.plan = s.ctn.plan ∧ (s.sendOut o t).ctn.breakIx = s.ctn.breakIx
    ∧ (s.sendOut o t).ctn.fol = s.ctn.fol ∧ (s.sendOut o t).ctn.window = s.ctn.window
    ∧ (s.sendOut o t).ctn.windowClose = s.ctn.windowClose ∧ (s.sendOut o t).cfe = s.cfe ∧ (s.sendOut o t).lu = s.lu
    ∧ (s.sendOut o t).axe = s.axe ∧ (s.sendOut o t).tru = s.tru ∧ (s.sendOut o t).tgu = s.tgu
    ∧ (s.sendOut o t).drive = s.drive ∧ (s.sendOut o t).reads = s.reads ∧ (s.sendOut o t).cause = s.cause
    ∧ (s.sendOut o t).free = s.free ∧ (s.sendOut o t).pending = s.pending := by
  and_intros <;> (simp only [State.sendOut]; (repeat' split) <;> simp)

@[simp] theorem State.pickNext_keeps (p : FibrePort) (t : Word) :
    (s.pickNext p t).tick = s.tick ∧ (s.pickNext p t).hold = s.hold ∧ (s.pickNext p t).ctn.state = s.ctn.state
    ∧ (s.pickNext p t).ctn.config = s.ctn.config ∧ (s.pickNext p t).ctn.limits = s.ctn.limits
    ∧ (s.pickNext p t).ctn.boundary = s.ctn.boundary ∧ (s.pickNext p t).ctn.next = s.ctn.next
    ∧ (s.pickNext p t).ctn.idleSince = s.ctn.idleSince ∧ (s.pickNext p t).ctn.cycle = s.ctn.cycle
    ∧ (s.pickNext p t).ctn.plan = s.ctn.plan ∧ (s.pickNext p t).ctn.breakIx = s.ctn.breakIx
    ∧ (s.pickNext p t).ctn.fol = s.ctn.fol ∧ (s.pickNext p t).ctn.window = s.ctn.window
    ∧ (s.pickNext p t).ctn.windowClose = s.ctn.windowClose ∧ (s.pickNext p t).cfe = s.cfe ∧ (s.pickNext p t).lu = s.lu
    ∧ (s.pickNext p t).axe = s.axe ∧ (s.pickNext p t).tru = s.tru ∧ (s.pickNext p t).tgu = s.tgu
    ∧ (s.pickNext p t).pse = s.pse ∧ (s.pickNext p t).teu = s.teu ∧ (s.pickNext p t).drive = s.drive
    ∧ (s.pickNext p t).panel = s.panel ∧ (s.pickNext p t).reads = s.reads ∧ (s.pickNext p t).cause = s.cause
    ∧ (s.pickNext p t).free = s.free ∧ (s.pickNext p t).pending = s.pending := by
  and_intros <;> (simp only [State.pickNext]; (repeat' split) <;> simp)

@[simp] theorem State.closeFrame_keeps (p : FibrePort) (n : Option Nat) (c : Option (List Byte)) :
    (s.closeFrame p n c).tick = s.tick ∧ (s.closeFrame p n c).hold = s.hold ∧ (s.closeFrame p n c).ctn = s.ctn
    ∧ (s.closeFrame p n c).cfe = s.cfe ∧ (s.closeFrame p n c).lu = s.lu ∧ (s.closeFrame p n c).axe = s.axe
    ∧ (s.closeFrame p n c).tru = s.tru ∧ (s.closeFrame p n c).tgu = s.tgu ∧ (s.closeFrame p n c).pse = s.pse
    ∧ (s.closeFrame p n c).teu = s.teu ∧ (s.closeFrame p n c).drive = s.drive ∧ (s.closeFrame p n c).panel = s.panel
    ∧ (s.closeFrame p n c).reads = s.reads ∧ (s.closeFrame p n c).cause = s.cause ∧ (s.closeFrame p n c).free = s.free
    ∧ (s.closeFrame p n c).pending = s.pending := by
  simp [State.closeFrame]

@[simp] theorem State.represent_keeps (p : FibrePort) (o : OutFrame) :
    (s.represent p o).tick = s.tick ∧ (s.represent p o).hold = s.hold ∧ (s.represent p o).ctn.state = s.ctn.state
    ∧ (s.represent p o).ctn.config = s.ctn.config ∧ (s.represent p o).ctn.limits = s.ctn.limits
    ∧ (s.represent p o).ctn.boundary = s.ctn.boundary ∧ (s.represent p o).ctn.next = s.ctn.next
    ∧ (s.represent p o).ctn.idleSince = s.ctn.idleSince ∧ (s.represent p o).ctn.cycle = s.ctn.cycle
    ∧ (s.represent p o).ctn.plan = s.ctn.plan ∧ (s.represent p o).ctn.breakIx = s.ctn.breakIx
    ∧ (s.represent p o).ctn.fol = s.ctn.fol ∧ (s.represent p o).ctn.window = s.ctn.window
    ∧ (s.represent p o).ctn.windowClose = s.ctn.windowClose ∧ (s.represent p o).cfe = s.cfe ∧ (s.represent p o).lu = s.lu
    ∧ (s.represent p o).axe = s.axe ∧ (s.represent p o).tru = s.tru ∧ (s.represent p o).tgu = s.tgu
    ∧ (s.represent p o).drive = s.drive ∧ (s.represent p o).reads = s.reads ∧ (s.represent p o).cause = s.cause
    ∧ (s.represent p o).free = s.free ∧ (s.represent p o).pending = s.pending := by
  and_intros <;> (simp only [State.represent]; (repeat' split) <;> simp)

theorem pickFirst_mem {ws rest : List OutFrame} {o : OutFrame} (h : pickFirst ws = some (o, rest)) : o ∈ ws := by
  unfold pickFirst at h
  dsimp only at h
  split at h
  · rename_i hf _
    simp only [Option.some.injEq, Prod.mk.injEq] at h
    exact h.1 ▸ List.mem_of_find?_eq_some hf
  · cases h

/-- Taking up a transit frame changes nothing of the cycle timer. -/
theorem State.pickNext_transit (p : FibrePort) (t : Word) (h : ∀ o ∈ (s.fibre p).waiting, o.isTransit = true) :
    (s.pickNext p t).ctn = s.ctn := by
  unfold State.pickNext
  dsimp only
  split
  · split
    · rename_i o rest hp
      have ho : o.origin = .transit := by simpa [OutFrame.isTransit] using h o (pickFirst_mem hp)
      simp [State.transmit, State.departed, ho]
    · rfl
  · rfl

@[simp] theorem State.discardOwnAt_keeps (p : FibrePort) :
    (s.discardOwnAt p).tick = s.tick ∧ (s.discardOwnAt p).hold = s.hold ∧ (s.discardOwnAt p).ctn = s.ctn
    ∧ (s.discardOwnAt p).cfe = s.cfe ∧ (s.discardOwnAt p).lu = s.lu ∧ (s.discardOwnAt p).axe = s.axe
    ∧ (s.discardOwnAt p).tru = s.tru ∧ (s.discardOwnAt p).tgu = s.tgu ∧ (s.discardOwnAt p).pse = s.pse
    ∧ (s.discardOwnAt p).teu = s.teu ∧ (s.discardOwnAt p).drive = s.drive ∧ (s.discardOwnAt p).panel = s.panel
    ∧ (s.discardOwnAt p).reads = s.reads ∧ (s.discardOwnAt p).cause = s.cause ∧ (s.discardOwnAt p).free = s.free
    ∧ (s.discardOwnAt p).pending = s.pending := by
  have hw : ∀ o ∈ ((s.onFibre p fun f => f.withoutOwn s.tick).fibre p).waiting, o.isTransit = true := by
    cases p <;> simp +contextual [State.onFibre, State.onFpf, State.fibre, Fibre.withoutOwn, List.mem_filter]
  have hc := State.pickNext_transit (s.onFibre p fun f => f.withoutOwn s.tick) p s.tick hw
  unfold State.discardOwnAt State.when
  dsimp only
  split <;> simp [hc]

@[simp] theorem State.discardOwn_keeps :
    s.discardOwn.tick = s.tick ∧ s.discardOwn.hold = s.hold ∧ s.discardOwn.ctn = s.ctn ∧ s.discardOwn.cfe = s.cfe
    ∧ s.discardOwn.lu = s.lu ∧ s.discardOwn.axe = s.axe ∧ s.discardOwn.tru = s.tru ∧ s.discardOwn.tgu = s.tgu
    ∧ s.discardOwn.pse = s.pse ∧ s.discardOwn.teu = s.teu ∧ s.discardOwn.drive = s.drive ∧ s.discardOwn.panel = s.panel
    ∧ s.discardOwn.reads = s.reads ∧ s.discardOwn.cause = s.cause ∧ s.discardOwn.free = s.free
    ∧ s.discardOwn.pending = s.pending := by
  simp [State.discardOwn]

@[simp] theorem State.portLocked_keeps (p : FibrePort) :
    (s.portLocked p).tick = s.tick ∧ (s.portLocked p).hold = s.hold ∧ (s.portLocked p).ctn.state = s.ctn.state
    ∧ (s.portLocked p).ctn.config = s.ctn.config ∧ (s.portLocked p).ctn.limits = s.ctn.limits
    ∧ (s.portLocked p).ctn.boundary = s.ctn.boundary ∧ (s.portLocked p).ctn.next = s.ctn.next
    ∧ (s.portLocked p).ctn.idleSince = s.ctn.idleSince ∧ (s.portLocked p).ctn.cycle = s.ctn.cycle
    ∧ (s.portLocked p).ctn.plan = s.ctn.plan ∧ (s.portLocked p).ctn.breakIx = s.ctn.breakIx
    ∧ (s.portLocked p).ctn.fol = s.ctn.fol ∧ (s.portLocked p).ctn.window = s.ctn.window
    ∧ (s.portLocked p).ctn.windowClose = s.ctn.windowClose ∧ (s.portLocked p).cfe = s.cfe ∧ (s.portLocked p).lu = s.lu
    ∧ (s.portLocked p).axe = s.axe ∧ (s.portLocked p).tru = s.tru ∧ (s.portLocked p).tgu = s.tgu
    ∧ (s.portLocked p).pse = s.pse ∧ (s.portLocked p).teu = s.teu ∧ (s.portLocked p).panel = s.panel
    ∧ (s.portLocked p).reads = s.reads ∧ (s.portLocked p).cause = s.cause ∧ (s.portLocked p).free = s.free
    ∧ (s.portLocked p).pending = s.pending := by
  simp [State.portLocked]

/-- Only frames of the line node's own cycle and probe are noted as they depart. -/
def Origin.noted : Origin → Bool
  | .ownCycle _ | .ownProbe => true
  | .transit | .ownTrip | .ownFragment _ _ _ _ | .ownTile => false

theorem State.departed_unnoted (o : OutFrame) (t : Word) (h : o.origin.noted = false) : s.departed o t = s := by
  unfold State.departed; split <;> simp_all [Origin.noted]

@[simp] theorem State.settleClass_keeps :
    s.settleClass.tick = s.tick ∧ s.settleClass.hold = s.hold ∧ s.settleClass.fpf = s.fpf ∧ s.settleClass.ctn = s.ctn
    ∧ s.settleClass.cfe = s.cfe ∧ s.settleClass.lu = s.lu ∧ s.settleClass.pse = s.pse ∧ s.settleClass.teu = s.teu
    ∧ s.settleClass.reads = s.reads ∧ s.settleClass.cause = s.cause ∧ s.settleClass.free = s.free
    ∧ s.settleClass.pending = s.pending := by
  and_intros <;> (simp only [State.settleClass, State.when]; (repeat' split) <;> simp)

@[simp] theorem State.announce_keeps (e : TripEntry) :
    (s.announce e).tick = s.tick ∧ (s.announce e).hold = s.hold ∧ (s.announce e).ctn.state = s.ctn.state
    ∧ (s.announce e).ctn.config = s.ctn.config ∧ (s.announce e).ctn.limits = s.ctn.limits
    ∧ (s.announce e).ctn.boundary = s.ctn.boundary ∧ (s.announce e).ctn.next = s.ctn.next
    ∧ (s.announce e).ctn.idleSince = s.ctn.idleSince ∧ (s.announce e).ctn.cycle = s.ctn.cycle
    ∧ (s.announce e).ctn.plan = s.ctn.plan ∧ (s.announce e).ctn.breakIx = s.ctn.breakIx ∧ (s.announce e).ctn.fol = s.ctn.fol
    ∧ (s.announce e).ctn.window = s.ctn.window ∧ (s.announce e).ctn.windowClose = s.ctn.windowClose
    ∧ (s.announce e).cfe = s.cfe ∧ (s.announce e).lu = s.lu ∧ (s.announce e).axe = s.axe ∧ (s.announce e).tgu = s.tgu
    ∧ (s.announce e).drive = s.drive ∧ (s.announce e).reads = s.reads ∧ (s.announce e).cause = s.cause
    ∧ (s.announce e).free = s.free ∧ (s.announce e).pending = s.pending := by
  and_intros <;> (simp only [State.announce]; (repeat' split) <;> simp)

@[simp] theorem State.handSource_keeps (i : Fin 26) :
    (s.handSource i).tick = s.tick ∧ (s.handSource i).hold = s.hold ∧ (s.handSource i).ctn.state = s.ctn.state
    ∧ (s.handSource i).ctn.config = s.ctn.config ∧ (s.handSource i).ctn.limits = s.ctn.limits
    ∧ (s.handSource i).ctn.boundary = s.ctn.boundary ∧ (s.handSource i).ctn.next = s.ctn.next
    ∧ (s.handSource i).ctn.idleSince = s.ctn.idleSince ∧ (s.handSource i).ctn.cycle = s.ctn.cycle
    ∧ (s.handSource i).ctn.plan = s.ctn.plan ∧ (s.handSource i).ctn.breakIx = s.ctn.breakIx
    ∧ (s.handSource i).ctn.fol = s.ctn.fol ∧ (s.handSource i).ctn.window = s.ctn.window
    ∧ (s.handSource i).ctn.windowClose = s.ctn.windowClose ∧ (s.handSource i).cfe = s.cfe ∧ (s.handSource i).lu = s.lu
    ∧ (s.handSource i).axe = s.axe ∧ (s.handSource i).tgu = s.tgu ∧ (s.handSource i).drive = s.drive
    ∧ (s.handSource i).reads = s.reads ∧ (s.handSource i).cause = s.cause ∧ (s.handSource i).free = s.free
    ∧ (s.handSource i).pending = s.pending := by
  and_intros <;> (simp only [State.handSource]; (repeat' split) <;> simp)

@[simp] theorem State.handSources_keeps (l : List (Fin 26)) :
    ((l.foldl State.handSource s)).tick = s.tick ∧ ((l.foldl State.handSource s)).hold = s.hold
    ∧ ((l.foldl State.handSource s)).ctn.state = s.ctn.state ∧ ((l.foldl State.handSource s)).ctn.config = s.ctn.config
    ∧ ((l.foldl State.handSource s)).ctn.limits = s.ctn.limits ∧ ((l.foldl State.handSource s)).ctn.boundary = s.ctn.boundary
    ∧ ((l.foldl State.handSource s)).ctn.next = s.ctn.next ∧ ((l.foldl State.handSource s)).ctn.idleSince = s.ctn.idleSince
    ∧ ((l.foldl State.handSource s)).ctn.cycle = s.ctn.cycle ∧ ((l.foldl State.handSource s)).ctn.plan = s.ctn.plan
    ∧ ((l.foldl State.handSource s)).ctn.breakIx = s.ctn.breakIx ∧ ((l.foldl State.handSource s)).ctn.fol = s.ctn.fol
    ∧ ((l.foldl State.handSource s)).ctn.window = s.ctn.window
    ∧ ((l.foldl State.handSource s)).ctn.windowClose = s.ctn.windowClose ∧ ((l.foldl State.handSource s)).cfe = s.cfe
    ∧ ((l.foldl State.handSource s)).lu = s.lu ∧ ((l.foldl State.handSource s)).axe = s.axe
    ∧ ((l.foldl State.handSource s)).tgu = s.tgu ∧ ((l.foldl State.handSource s)).drive = s.drive
    ∧ ((l.foldl State.handSource s)).reads = s.reads ∧ ((l.foldl State.handSource s)).cause = s.cause
    ∧ ((l.foldl State.handSource s)).free = s.free ∧ ((l.foldl State.handSource s)).pending = s.pending := by
  and_intros <;> (first | exact foldl_keeps _ _ (fun s b => by simp) _ _ | exact foldl_keepsCtn _ _ (fun s b => by simp) _ _)

@[simp] theorem State.settleTrips_keeps :
    s.settleTrips.tick = s.tick ∧ s.settleTrips.hold = s.hold ∧ s.settleTrips.ctn.state = s.ctn.state
    ∧ s.settleTrips.ctn.config = s.ctn.config ∧ s.settleTrips.ctn.limits = s.ctn.limits
    ∧ s.settleTrips.ctn.boundary = s.ctn.boundary ∧ s.settleTrips.ctn.next = s.ctn.next
    ∧ s.settleTrips.ctn.idleSince = s.ctn.idleSince ∧ s.settleTrips.ctn.cycle = s.ctn.cycle
    ∧ s.settleTrips.ctn.plan = s.ctn.plan ∧ s.settleTrips.ctn.breakIx = s.ctn.breakIx ∧ s.settleTrips.ctn.fol = s.ctn.fol
    ∧ s.settleTrips.ctn.window = s.ctn.window ∧ s.settleTrips.ctn.windowClose = s.ctn.windowClose ∧ s.settleTrips.cfe = s.cfe
    ∧ s.settleTrips.lu = s.lu ∧ s.settleTrips.reads = s.reads ∧ s.settleTrips.cause = s.cause
    ∧ s.settleTrips.pending = s.pending := by
  and_intros <;> (simp only [State.settleTrips]; (repeat' split) <;> simp [-List.foldl_reverse])

@[simp] theorem State.takeTrip_keeps (a : Byte) (t : TripBody) :
    (s.takeTrip a t).tick = s.tick ∧ (s.takeTrip a t).hold = s.hold ∧ (s.takeTrip a t).fpf = s.fpf
    ∧ (s.takeTrip a t).ctn = s.ctn ∧ (s.takeTrip a t).cfe = s.cfe ∧ (s.takeTrip a t).lu = s.lu
    ∧ (s.takeTrip a t).pse = s.pse ∧ (s.takeTrip a t).teu = s.teu ∧ (s.takeTrip a t).reads = s.reads
    ∧ (s.takeTrip a t).cause = s.cause ∧ (s.takeTrip a t).free = s.free ∧ (s.takeTrip a t).pending = s.pending := by
  and_intros <;> (simp only [State.takeTrip]; (repeat' split) <;> simp)

@[simp] theorem State.releaseLineLost_keeps :
    s.releaseLineLost.tick = s.tick ∧ s.releaseLineLost.hold = s.hold ∧ s.releaseLineLost.fpf = s.fpf
    ∧ s.releaseLineLost.ctn = s.ctn ∧ s.releaseLineLost.cfe = s.cfe ∧ s.releaseLineLost.tru = s.tru
    ∧ s.releaseLineLost.tgu = s.tgu ∧ s.releaseLineLost.pse = s.pse ∧ s.releaseLineLost.teu = s.teu
    ∧ s.releaseLineLost.drive = s.drive ∧ s.releaseLineLost.panel = s.panel ∧ s.releaseLineLost.reads = s.reads
    ∧ s.releaseLineLost.cause = s.cause ∧ s.releaseLineLost.free = s.free ∧ s.releaseLineLost.pending = s.pending := by
  simp [State.releaseLineLost]

@[simp] theorem State.generate_keeps :
    s.generate.tick = s.tick ∧ s.generate.hold = s.hold ∧ s.generate.fpf = s.fpf ∧ s.generate.ctn = s.ctn
    ∧ s.generate.cfe = s.cfe ∧ s.generate.axe = s.axe ∧ s.generate.tru = s.tru ∧ s.generate.tgu = s.tgu
    ∧ s.generate.pse = s.pse ∧ s.generate.teu = s.teu ∧ s.generate.drive = s.drive ∧ s.generate.panel = s.panel
    ∧ s.generate.reads = s.reads ∧ s.generate.cause = s.cause ∧ s.generate.free = s.free ∧ s.generate.pending = s.pending := by
  and_intros <;> (simp only [State.generate]; (repeat' split) <;> simp)

@[simp] theorem State.seedWindow_keeps :
    s.seedWindow.tick = s.tick ∧ s.seedWindow.hold = s.hold ∧ s.seedWindow.fpf = s.fpf ∧ s.seedWindow.ctn = s.ctn
    ∧ s.seedWindow.cfe = s.cfe ∧ s.seedWindow.axe = s.axe ∧ s.seedWindow.tru = s.tru ∧ s.seedWindow.tgu = s.tgu
    ∧ s.seedWindow.pse = s.pse ∧ s.seedWindow.teu = s.teu ∧ s.seedWindow.drive = s.drive ∧ s.seedWindow.panel = s.panel
    ∧ s.seedWindow.reads = s.reads ∧ s.seedWindow.cause = s.cause ∧ s.seedWindow.free = s.free
    ∧ s.seedWindow.pending = s.pending := by
  simp [State.seedWindow]

@[simp] theorem State.takeSample_keeps (c : CycleBody) :
    (s.takeSample c).tick = s.tick ∧ (s.takeSample c).hold = s.hold ∧ (s.takeSample c).fpf = s.fpf
    ∧ (s.takeSample c).ctn = s.ctn ∧ (s.takeSample c).cfe = s.cfe ∧ (s.takeSample c).axe = s.axe
    ∧ (s.takeSample c).tru = s.tru ∧ (s.takeSample c).tgu = s.tgu ∧ (s.takeSample c).pse = s.pse
    ∧ (s.takeSample c).teu = s.teu ∧ (s.takeSample c).drive = s.drive ∧ (s.takeSample c).panel = s.panel
    ∧ (s.takeSample c).reads = s.reads ∧ (s.takeSample c).cause = s.cause ∧ (s.takeSample c).free = s.free
    ∧ (s.takeSample c).pending = s.pending := by
  and_intros <;> (simp only [State.takeSample]; (repeat' split) <;> simp)

@[simp] theorem State.extrapolate_keeps (k : Word) :
    (s.extrapolate k).tick = s.tick ∧ (s.extrapolate k).hold = s.hold ∧ (s.extrapolate k).fpf = s.fpf
    ∧ (s.extrapolate k).ctn = s.ctn ∧ (s.extrapolate k).cfe = s.cfe ∧ (s.extrapolate k).axe = s.axe
    ∧ (s.extrapolate k).tru = s.tru ∧ (s.extrapolate k).tgu = s.tgu ∧ (s.extrapolate k).pse = s.pse
    ∧ (s.extrapolate k).teu = s.teu ∧ (s.extrapolate k).drive = s.drive ∧ (s.extrapolate k).panel = s.panel
    ∧ (s.extrapolate k).reads = s.reads ∧ (s.extrapolate k).cause = s.cause ∧ (s.extrapolate k).free = s.free
    ∧ (s.extrapolate k).pending = s.pending := by
  and_intros <;> (simp only [State.extrapolate]; (repeat' split) <;> simp)

@[simp] theorem State.emptyWindow_keeps :
    s.emptyWindow.tick = s.tick ∧ s.emptyWindow.hold = s.hold ∧ s.emptyWindow.fpf = s.fpf ∧ s.emptyWindow.ctn = s.ctn
    ∧ s.emptyWindow.cfe = s.cfe ∧ s.emptyWindow.axe = s.axe ∧ s.emptyWindow.tru = s.tru ∧ s.emptyWindow.tgu = s.tgu
    ∧ s.emptyWindow.pse = s.pse ∧ s.emptyWindow.teu = s.teu ∧ s.emptyWindow.drive = s.drive ∧ s.emptyWindow.panel = s.panel
    ∧ s.emptyWindow.reads = s.reads ∧ s.emptyWindow.cause = s.cause ∧ s.emptyWindow.free = s.free
    ∧ s.emptyWindow.pending = s.pending := by
  simp [State.emptyWindow]

@[simp] theorem State.computeEvent_keeps (b : Word) :
    (s.computeEvent b).tick = s.tick ∧ (s.computeEvent b).hold = s.hold ∧ (s.computeEvent b).fpf = s.fpf
    ∧ (s.computeEvent b).ctn = s.ctn ∧ (s.computeEvent b).cfe = s.cfe ∧ (s.computeEvent b).lu = s.lu
    ∧ (s.computeEvent b).tru = s.tru ∧ (s.computeEvent b).tgu = s.tgu ∧ (s.computeEvent b).pse = s.pse
    ∧ (s.computeEvent b).teu = s.teu ∧ (s.computeEvent b).panel = s.panel ∧ (s.computeEvent b).reads = s.reads
    ∧ (s.computeEvent b).cause = s.cause ∧ (s.computeEvent b).free = s.free ∧ (s.computeEvent b).pending = s.pending := by
  simp only [State.computeEvent, State.when]; (repeat' split) <;> simp

@[simp] theorem State.publication_keeps (b : Word) :
    (s.publication b).tick = s.tick ∧ (s.publication b).hold = s.hold ∧ (s.publication b).fpf = s.fpf
    ∧ (s.publication b).ctn = s.ctn ∧ (s.publication b).cfe = s.cfe ∧ (s.publication b).lu = s.lu
    ∧ (s.publication b).tru = s.tru ∧ (s.publication b).tgu = s.tgu ∧ (s.publication b).pse = s.pse
    ∧ (s.publication b).teu = s.teu ∧ (s.publication b).drive = s.drive ∧ (s.publication b).panel = s.panel
    ∧ (s.publication b).reads = s.reads ∧ (s.publication b).cause = s.cause ∧ (s.publication b).free = s.free
    ∧ (s.publication b).pending = s.pending := by
  simp [State.publication]

@[simp] theorem State.firePulse_keeps (k : Fin 4) (x : Pulse) :
    (s.firePulse k x).tick = s.tick ∧ (s.firePulse k x).hold = s.hold ∧ (s.firePulse k x).fpf = s.fpf
    ∧ (s.firePulse k x).ctn = s.ctn ∧ (s.firePulse k x).cfe = s.cfe ∧ (s.firePulse k x).lu = s.lu
    ∧ (s.firePulse k x).axe = s.axe ∧ (s.firePulse k x).tru = s.tru ∧ (s.firePulse k x).pse = s.pse
    ∧ (s.firePulse k x).teu = s.teu ∧ (s.firePulse k x).drive = s.drive ∧ (s.firePulse k x).reads = s.reads
    ∧ (s.firePulse k x).cause = s.cause ∧ (s.firePulse k x).free = s.free ∧ (s.firePulse k x).pending = s.pending := by
  simp only [State.firePulse]; (repeat' split) <;> simp

@[simp] theorem State.intervalEntry_keeps (b l : Word) (i : Fin 16) :
    (s.intervalEntry b l i).tick = s.tick ∧ (s.intervalEntry b l i).hold = s.hold ∧ (s.intervalEntry b l i).fpf = s.fpf
    ∧ (s.intervalEntry b l i).ctn = s.ctn ∧ (s.intervalEntry b l i).cfe = s.cfe ∧ (s.intervalEntry b l i).lu = s.lu
    ∧ (s.intervalEntry b l i).axe = s.axe ∧ (s.intervalEntry b l i).tru = s.tru ∧ (s.intervalEntry b l i).pse = s.pse
    ∧ (s.intervalEntry b l i).teu = s.teu ∧ (s.intervalEntry b l i).drive = s.drive
    ∧ (s.intervalEntry b l i).reads = s.reads ∧ (s.intervalEntry b l i).cause = s.cause
    ∧ (s.intervalEntry b l i).free = s.free ∧ (s.intervalEntry b l i).pending = s.pending := by
  simp only [State.intervalEntry]; (repeat' split) <;> simp

@[simp] theorem State.intervalEvent_keeps (b l : Word) :
    (s.intervalEvent b l).tick = s.tick ∧ (s.intervalEvent b l).hold = s.hold ∧ (s.intervalEvent b l).fpf = s.fpf
    ∧ (s.intervalEvent b l).ctn = s.ctn ∧ (s.intervalEvent b l).cfe = s.cfe ∧ (s.intervalEvent b l).lu = s.lu
    ∧ (s.intervalEvent b l).axe = s.axe ∧ (s.intervalEvent b l).tru = s.tru ∧ (s.intervalEvent b l).pse = s.pse
    ∧ (s.intervalEvent b l).teu = s.teu ∧ (s.intervalEvent b l).drive = s.drive ∧ (s.intervalEvent b l).reads = s.reads
    ∧ (s.intervalEvent b l).cause = s.cause ∧ (s.intervalEvent b l).free = s.free
    ∧ (s.intervalEvent b l).pending = s.pending := by
  and_intros <;> exact foldl_keeps _ _ (fun s b => by simp) _ _

@[simp] theorem State.addStamp_keeps (c : StampContent) :
    (s.addStamp c).tick = s.tick ∧ (s.addStamp c).hold = s.hold ∧ (s.addStamp c).fpf = s.fpf ∧ (s.addStamp c).ctn = s.ctn
    ∧ (s.addStamp c).cfe = s.cfe ∧ (s.addStamp c).lu = s.lu ∧ (s.addStamp c).axe = s.axe ∧ (s.addStamp c).tru = s.tru
    ∧ (s.addStamp c).pse = s.pse ∧ (s.addStamp c).teu = s.teu ∧ (s.addStamp c).drive = s.drive
    ∧ (s.addStamp c).reads = s.reads ∧ (s.addStamp c).cause = s.cause ∧ (s.addStamp c).free = s.free
    ∧ (s.addStamp c).pending = s.pending := by
  simp only [State.addStamp, State.when]; (repeat' split) <;> simp

@[simp] theorem State.loseStrip_keeps (h : Fin 16) (x : Strip) :
    (s.loseStrip h x).tick = s.tick ∧ (s.loseStrip h x).hold = s.hold ∧ (s.loseStrip h x).fpf = s.fpf
    ∧ (s.loseStrip h x).ctn = s.ctn ∧ (s.loseStrip h x).cfe = s.cfe ∧ (s.loseStrip h x).lu = s.lu
    ∧ (s.loseStrip h x).axe = s.axe ∧ (s.loseStrip h x).tru = s.tru ∧ (s.loseStrip h x).tgu = s.tgu
    ∧ (s.loseStrip h x).teu = s.teu ∧ (s.loseStrip h x).drive = s.drive ∧ (s.loseStrip h x).reads = s.reads
    ∧ (s.loseStrip h x).cause = s.cause ∧ (s.loseStrip h x).free = s.free ∧ (s.loseStrip h x).pending = s.pending := by
  simp only [State.loseStrip]; (repeat' split) <;> simp

@[simp] theorem State.fragmentClosed_keeps (h : Fin 16) (id : Half) (b : Bool) :
    (s.fragmentClosed h id b).tick = s.tick ∧ (s.fragmentClosed h id b).hold = s.hold
    ∧ (s.fragmentClosed h id b).fpf = s.fpf ∧ (s.fragmentClosed h id b).ctn = s.ctn ∧ (s.fragmentClosed h id b).cfe = s.cfe
    ∧ (s.fragmentClosed h id b).lu = s.lu ∧ (s.fragmentClosed h id b).axe = s.axe ∧ (s.fragmentClosed h id b).tru = s.tru
    ∧ (s.fragmentClosed h id b).tgu = s.tgu ∧ (s.fragmentClosed h id b).teu = s.teu
    ∧ (s.fragmentClosed h id b).drive = s.drive ∧ (s.fragmentClosed h id b).reads = s.reads
    ∧ (s.fragmentClosed h id b).cause = s.cause ∧ (s.fragmentClosed h id b).free = s.free
    ∧ (s.fragmentClosed h id b).pending = s.pending := by
  simp only [State.fragmentClosed]; (repeat' split) <;> simp

@[simp] theorem State.keptLost_keeps (h : Fin 16) (id : Half) :
    (s.keptLost h id).tick = s.tick ∧ (s.keptLost h id).hold = s.hold ∧ (s.keptLost h id).fpf = s.fpf
    ∧ (s.keptLost h id).ctn = s.ctn ∧ (s.keptLost h id).cfe = s.cfe ∧ (s.keptLost h id).lu = s.lu
    ∧ (s.keptLost h id).axe = s.axe ∧ (s.keptLost h id).tru = s.tru ∧ (s.keptLost h id).tgu = s.tgu
    ∧ (s.keptLost h id).teu = s.teu ∧ (s.keptLost h id).drive = s.drive ∧ (s.keptLost h id).reads = s.reads
    ∧ (s.keptLost h id).cause = s.cause ∧ (s.keptLost h id).free = s.free ∧ (s.keptLost h id).pending = s.pending := by
  simp only [State.keptLost]; (repeat' split) <;> simp

@[simp] theorem State.fragmentLost_keeps (h : Fin 16) (id : Half) :
    (s.fragmentLost h id).tick = s.tick ∧ (s.fragmentLost h id).hold = s.hold ∧ (s.fragmentLost h id).fpf = s.fpf
    ∧ (s.fragmentLost h id).ctn = s.ctn ∧ (s.fragmentLost h id).cfe = s.cfe ∧ (s.fragmentLost h id).lu = s.lu
    ∧ (s.fragmentLost h id).axe = s.axe ∧ (s.fragmentLost h id).tru = s.tru ∧ (s.fragmentLost h id).tgu = s.tgu
    ∧ (s.fragmentLost h id).teu = s.teu ∧ (s.fragmentLost h id).drive = s.drive ∧ (s.fragmentLost h id).reads = s.reads
    ∧ (s.fragmentLost h id).cause = s.cause ∧ (s.fragmentLost h id).free = s.free
    ∧ (s.fragmentLost h id).pending = s.pending := by
  simp only [State.fragmentLost]; (repeat' split) <;> simp

@[simp] theorem State.fragmentStarted_keeps (h : Fin 16) (n : Nat) :
    (s.fragmentStarted h n).tick = s.tick ∧ (s.fragmentStarted h n).hold = s.hold ∧ (s.fragmentStarted h n).fpf = s.fpf
    ∧ (s.fragmentStarted h n).ctn = s.ctn ∧ (s.fragmentStarted h n).cfe = s.cfe ∧ (s.fragmentStarted h n).lu = s.lu
    ∧ (s.fragmentStarted h n).axe = s.axe ∧ (s.fragmentStarted h n).tru = s.tru ∧ (s.fragmentStarted h n).tgu = s.tgu
    ∧ (s.fragmentStarted h n).teu = s.teu ∧ (s.fragmentStarted h n).drive = s.drive
    ∧ (s.fragmentStarted h n).panel = s.panel ∧ (s.fragmentStarted h n).reads = s.reads
    ∧ (s.fragmentStarted h n).cause = s.cause ∧ (s.fragmentStarted h n).free = s.free
    ∧ (s.fragmentStarted h n).pending = s.pending := by
  simp only [State.fragmentStarted]; (repeat' split) <;> simp

@[simp] theorem State.putRecord_keeps (k : Fin 32) (r : StripRecord) :
    (s.putRecord k r).tick = s.tick ∧ (s.putRecord k r).hold = s.hold ∧ (s.putRecord k r).fpf = s.fpf
    ∧ (s.putRecord k r).ctn = s.ctn ∧ (s.putRecord k r).cfe = s.cfe ∧ (s.putRecord k r).lu = s.lu
    ∧ (s.putRecord k r).axe = s.axe ∧ (s.putRecord k r).tru = s.tru ∧ (s.putRecord k r).tgu = s.tgu
    ∧ (s.putRecord k r).teu = s.teu ∧ (s.putRecord k r).drive = s.drive ∧ (s.putRecord k r).panel = s.panel
    ∧ (s.putRecord k r).reads = s.reads ∧ (s.putRecord k r).cause = s.cause ∧ (s.putRecord k r).free = s.free
    ∧ (s.putRecord k r).pending = s.pending := by
  simp [State.putRecord]

@[simp] theorem State.dropStrip_keeps :
    s.dropStrip.tick = s.tick ∧ s.dropStrip.hold = s.hold ∧ s.dropStrip.fpf = s.fpf ∧ s.dropStrip.ctn = s.ctn
    ∧ s.dropStrip.cfe = s.cfe ∧ s.dropStrip.lu = s.lu ∧ s.dropStrip.axe = s.axe ∧ s.dropStrip.tru = s.tru
    ∧ s.dropStrip.tgu = s.tgu ∧ s.dropStrip.teu = s.teu ∧ s.dropStrip.drive = s.drive ∧ s.dropStrip.panel = s.panel
    ∧ s.dropStrip.reads = s.reads ∧ s.dropStrip.cause = s.cause ∧ s.dropStrip.free = s.free
    ∧ s.dropStrip.pending = s.pending := by
  simp [State.dropStrip]

@[simp] theorem State.settleStripRecord_keeps (k : Fin 32) (r : StripRecord) (st : RecordState) :
    (s.settleStripRecord k r st).tick = s.tick ∧ (s.settleStripRecord k r st).hold = s.hold
    ∧ (s.settleStripRecord k r st).fpf = s.fpf ∧ (s.settleStripRecord k r st).ctn = s.ctn
    ∧ (s.settleStripRecord k r st).cfe = s.cfe ∧ (s.settleStripRecord k r st).lu = s.lu
    ∧ (s.settleStripRecord k r st).axe = s.axe ∧ (s.settleStripRecord k r st).tru = s.tru
    ∧ (s.settleStripRecord k r st).tgu = s.tgu ∧ (s.settleStripRecord k r st).teu = s.teu
    ∧ (s.settleStripRecord k r st).drive = s.drive ∧ (s.settleStripRecord k r st).reads = s.reads
    ∧ (s.settleStripRecord k r st).cause = s.cause ∧ (s.settleStripRecord k r st).free = s.free
    ∧ (s.settleStripRecord k r st).pending = s.pending := by
  simp [State.settleStripRecord]

@[simp] theorem State.extendRecord_keeps (k : Fin 32) (r : StripRecord) (f : FragmentBody) (b : Bool) :
    (s.extendRecord k r f b).tick = s.tick ∧ (s.extendRecord k r f b).hold = s.hold ∧ (s.extendRecord k r f b).fpf = s.fpf
    ∧ (s.extendRecord k r f b).ctn = s.ctn ∧ (s.extendRecord k r f b).cfe = s.cfe ∧ (s.extendRecord k r f b).lu = s.lu
    ∧ (s.extendRecord k r f b).axe = s.axe ∧ (s.extendRecord k r f b).tru = s.tru ∧ (s.extendRecord k r f b).tgu = s.tgu
    ∧ (s.extendRecord k r f b).teu = s.teu ∧ (s.extendRecord k r f b).drive = s.drive
    ∧ (s.extendRecord k r f b).reads = s.reads ∧ (s.extendRecord k r f b).cause = s.cause
    ∧ (s.extendRecord k r f b).free = s.free ∧ (s.extendRecord k r f b).pending = s.pending := by
  simp only [State.extendRecord]; (repeat' split) <;> simp

@[simp] theorem State.takeFragment_keeps (a : Byte) (f : FragmentBody) (b : Bool) :
    (s.takeFragment a f b).tick = s.tick ∧ (s.takeFragment a f b).hold = s.hold ∧ (s.takeFragment a f b).fpf = s.fpf
    ∧ (s.takeFragment a f b).ctn = s.ctn ∧ (s.takeFragment a f b).cfe = s.cfe ∧ (s.takeFragment a f b).lu = s.lu
    ∧ (s.takeFragment a f b).axe = s.axe ∧ (s.takeFragment a f b).tru = s.tru ∧ (s.takeFragment a f b).tgu = s.tgu
    ∧ (s.takeFragment a f b).teu = s.teu ∧ (s.takeFragment a f b).drive = s.drive ∧ (s.takeFragment a f b).reads = s.reads
    ∧ (s.takeFragment a f b).cause = s.cause ∧ (s.takeFragment a f b).free = s.free
    ∧ (s.takeFragment a f b).pending = s.pending := by
  simp only [State.takeFragment]; (repeat' split) <;> simp

@[simp] theorem State.breakRecords_keeps (p : StripRecord → Bool) :
    (s.breakRecords p).tick = s.tick ∧ (s.breakRecords p).hold = s.hold ∧ (s.breakRecords p).fpf = s.fpf
    ∧ (s.breakRecords p).ctn = s.ctn ∧ (s.breakRecords p).cfe = s.cfe ∧ (s.breakRecords p).lu = s.lu
    ∧ (s.breakRecords p).axe = s.axe ∧ (s.breakRecords p).tru = s.tru ∧ (s.breakRecords p).tgu = s.tgu
    ∧ (s.breakRecords p).teu = s.teu ∧ (s.breakRecords p).drive = s.drive ∧ (s.breakRecords p).reads = s.reads
    ∧ (s.breakRecords p).cause = s.cause ∧ (s.breakRecords p).free = s.free ∧ (s.breakRecords p).pending = s.pending := by
  and_intros <;> (exact foldl_keeps _ _ (fun s b => by (repeat' split) <;> simp) _ _)

@[simp] theorem State.gapTimeout_keeps :
    s.gapTimeout.tick = s.tick ∧ s.gapTimeout.hold = s.hold ∧ s.gapTimeout.fpf = s.fpf ∧ s.gapTimeout.ctn = s.ctn
    ∧ s.gapTimeout.cfe = s.cfe ∧ s.gapTimeout.lu = s.lu ∧ s.gapTimeout.axe = s.axe ∧ s.gapTimeout.tru = s.tru
    ∧ s.gapTimeout.tgu = s.tgu ∧ s.gapTimeout.teu = s.teu ∧ s.gapTimeout.drive = s.drive ∧ s.gapTimeout.reads = s.reads
    ∧ s.gapTimeout.cause = s.cause ∧ s.gapTimeout.free = s.free ∧ s.gapTimeout.pending = s.pending := by
  and_intros <;> (simp [State.gapTimeout])

@[simp] theorem State.consoleStrip_keeps (h : Fin 16) :
    (s.consoleStrip h).tick = s.tick ∧ (s.consoleStrip h).hold = s.hold ∧ (s.consoleStrip h).fpf = s.fpf
    ∧ (s.consoleStrip h).ctn = s.ctn ∧ (s.consoleStrip h).cfe = s.cfe ∧ (s.consoleStrip h).lu = s.lu
    ∧ (s.consoleStrip h).axe = s.axe ∧ (s.consoleStrip h).tru = s.tru ∧ (s.consoleStrip h).tgu = s.tgu
    ∧ (s.consoleStrip h).teu = s.teu ∧ (s.consoleStrip h).drive = s.drive ∧ (s.consoleStrip h).reads = s.reads
    ∧ (s.consoleStrip h).cause = s.cause ∧ (s.consoleStrip h).pending = s.pending := by
  and_intros <;> (unfold State.consoleStrip State.reassemble; (repeat' split) <;> simp [Option.getD])

@[simp] theorem State.becomeConsole_keeps :
    s.becomeConsole.tick = s.tick ∧ s.becomeConsole.hold = s.hold ∧ s.becomeConsole.fpf = s.fpf
    ∧ s.becomeConsole.ctn = s.ctn ∧ s.becomeConsole.cfe = s.cfe ∧ s.becomeConsole.lu = s.lu ∧ s.becomeConsole.axe = s.axe
    ∧ s.becomeConsole.tru = s.tru ∧ s.becomeConsole.tgu = s.tgu ∧ s.becomeConsole.teu = s.teu
    ∧ s.becomeConsole.drive = s.drive ∧ s.becomeConsole.reads = s.reads ∧ s.becomeConsole.cause = s.cause
    ∧ s.becomeConsole.pending = s.pending := by
  and_intros <;> (exact foldl_keeps _ _ (fun s b => by simp) _ _)

@[simp] theorem State.loseSending_keeps (h : Fin 16) :
    (s.loseSending h).tick = s.tick ∧ (s.loseSending h).hold = s.hold ∧ (s.loseSending h).fpf = s.fpf
    ∧ (s.loseSending h).ctn = s.ctn ∧ (s.loseSending h).cfe = s.cfe ∧ (s.loseSending h).lu = s.lu
    ∧ (s.loseSending h).axe = s.axe ∧ (s.loseSending h).tru = s.tru ∧ (s.loseSending h).tgu = s.tgu
    ∧ (s.loseSending h).teu = s.teu ∧ (s.loseSending h).drive = s.drive ∧ (s.loseSending h).reads = s.reads
    ∧ (s.loseSending h).cause = s.cause ∧ (s.loseSending h).free = s.free ∧ (s.loseSending h).pending = s.pending := by
  simp only [State.loseSending]; (repeat' split) <;> simp

@[simp] theorem State.lostAll_keeps (l : List (Fin 16)) :
    ((l.foldl State.loseSending s)).tick = s.tick ∧ ((l.foldl State.loseSending s)).hold = s.hold
    ∧ ((l.foldl State.loseSending s)).fpf = s.fpf ∧ ((l.foldl State.loseSending s)).ctn = s.ctn
    ∧ ((l.foldl State.loseSending s)).cfe = s.cfe ∧ ((l.foldl State.loseSending s)).lu = s.lu
    ∧ ((l.foldl State.loseSending s)).axe = s.axe ∧ ((l.foldl State.loseSending s)).tru = s.tru
    ∧ ((l.foldl State.loseSending s)).tgu = s.tgu ∧ ((l.foldl State.loseSending s)).teu = s.teu
    ∧ ((l.foldl State.loseSending s)).drive = s.drive ∧ ((l.foldl State.loseSending s)).reads = s.reads
    ∧ ((l.foldl State.loseSending s)).cause = s.cause ∧ ((l.foldl State.loseSending s)).free = s.free
    ∧ ((l.foldl State.loseSending s)).pending = s.pending := by
  and_intros <;> exact foldl_keeps _ _ (fun s b => by simp) _ _

@[simp] theorem State.restartStrips_keeps :
    s.restartStrips.tick = s.tick ∧ s.restartStrips.hold = s.hold ∧ s.restartStrips.fpf = s.fpf
    ∧ s.restartStrips.ctn = s.ctn ∧ s.restartStrips.cfe = s.cfe ∧ s.restartStrips.lu = s.lu ∧ s.restartStrips.axe = s.axe
    ∧ s.restartStrips.tru = s.tru ∧ s.restartStrips.tgu = s.tgu ∧ s.restartStrips.teu = s.teu
    ∧ s.restartStrips.drive = s.drive ∧ s.restartStrips.reads = s.reads ∧ s.restartStrips.cause = s.cause
    ∧ s.restartStrips.free = s.free ∧ s.restartStrips.pending = s.pending := by
  simp [State.restartStrips]

@[simp] theorem State.setRepaint_keeps (m : Half) :
    (s.setRepaint m).tick = s.tick ∧ (s.setRepaint m).hold = s.hold ∧ (s.setRepaint m).fpf = s.fpf
    ∧ (s.setRepaint m).ctn = s.ctn ∧ (s.setRepaint m).cfe = s.cfe ∧ (s.setRepaint m).lu = s.lu
    ∧ (s.setRepaint m).axe = s.axe ∧ (s.setRepaint m).tru = s.tru ∧ (s.setRepaint m).tgu = s.tgu
    ∧ (s.setRepaint m).pse = s.pse ∧ (s.setRepaint m).drive = s.drive ∧ (s.setRepaint m).reads = s.reads
    ∧ (s.setRepaint m).cause = s.cause ∧ (s.setRepaint m).free = s.free ∧ (s.setRepaint m).pending = s.pending := by
  simp only [State.setRepaint, State.when]; (repeat' split) <;> simp

@[simp] theorem State.takeRepaint_keeps (a : Byte) (m : Half) (k : Word) :
    (s.takeRepaint a m k).tick = s.tick ∧ (s.takeRepaint a m k).hold = s.hold ∧ (s.takeRepaint a m k).fpf = s.fpf
    ∧ (s.takeRepaint a m k).ctn = s.ctn ∧ (s.takeRepaint a m k).cfe = s.cfe ∧ (s.takeRepaint a m k).lu = s.lu
    ∧ (s.takeRepaint a m k).axe = s.axe ∧ (s.takeRepaint a m k).tru = s.tru ∧ (s.takeRepaint a m k).tgu = s.tgu
    ∧ (s.takeRepaint a m k).pse = s.pse ∧ (s.takeRepaint a m k).drive = s.drive ∧ (s.takeRepaint a m k).reads = s.reads
    ∧ (s.takeRepaint a m k).cause = s.cause ∧ (s.takeRepaint a m k).free = s.free
    ∧ (s.takeRepaint a m k).pending = s.pending := by
  simp only [State.takeRepaint, State.when]; (repeat' split) <;> simp

@[simp] theorem State.dropTile_keeps (a : Byte) :
    (s.dropTile a).tick = s.tick ∧ (s.dropTile a).hold = s.hold ∧ (s.dropTile a).fpf = s.fpf ∧ (s.dropTile a).ctn = s.ctn
    ∧ (s.dropTile a).cfe = s.cfe ∧ (s.dropTile a).lu = s.lu ∧ (s.dropTile a).axe = s.axe ∧ (s.dropTile a).tru = s.tru
    ∧ (s.dropTile a).tgu = s.tgu ∧ (s.dropTile a).pse = s.pse ∧ (s.dropTile a).drive = s.drive
    ∧ (s.dropTile a).reads = s.reads ∧ (s.dropTile a).cause = s.cause ∧ (s.dropTile a).free = s.free
    ∧ (s.dropTile a).pending = s.pending := by
  simp [State.dropTile]

@[simp] theorem State.clearRepaint_keeps (a : Byte) (b : Bool) :
    (s.clearRepaint a b).tick = s.tick ∧ (s.clearRepaint a b).hold = s.hold ∧ (s.clearRepaint a b).fpf = s.fpf
    ∧ (s.clearRepaint a b).ctn = s.ctn ∧ (s.clearRepaint a b).cfe = s.cfe ∧ (s.clearRepaint a b).lu = s.lu
    ∧ (s.clearRepaint a b).axe = s.axe ∧ (s.clearRepaint a b).tru = s.tru ∧ (s.clearRepaint a b).tgu = s.tgu
    ∧ (s.clearRepaint a b).pse = s.pse ∧ (s.clearRepaint a b).drive = s.drive ∧ (s.clearRepaint a b).reads = s.reads
    ∧ (s.clearRepaint a b).cause = s.cause ∧ (s.clearRepaint a b).free = s.free ∧ (s.clearRepaint a b).pending = s.pending := by
  simp only [State.clearRepaint, State.when]; (repeat' split) <;> simp

@[simp] theorem State.offerTile_keeps (x : InTile) :
    (s.offerTile x).tick = s.tick ∧ (s.offerTile x).hold = s.hold ∧ (s.offerTile x).fpf = s.fpf
    ∧ (s.offerTile x).ctn = s.ctn ∧ (s.offerTile x).cfe = s.cfe ∧ (s.offerTile x).lu = s.lu ∧ (s.offerTile x).axe = s.axe
    ∧ (s.offerTile x).tru = s.tru ∧ (s.offerTile x).tgu = s.tgu ∧ (s.offerTile x).pse = s.pse
    ∧ (s.offerTile x).drive = s.drive ∧ (s.offerTile x).reads = s.reads ∧ (s.offerTile x).cause = s.cause
    ∧ (s.offerTile x).free = s.free ∧ (s.offerTile x).pending = s.pending := by
  simp only [State.offerTile, State.when]; (repeat' split) <;> simp

@[simp] theorem State.takeTile_keeps (f : Frame) (t : TileBody) :
    (s.takeTile f t).tick = s.tick ∧ (s.takeTile f t).hold = s.hold ∧ (s.takeTile f t).fpf = s.fpf
    ∧ (s.takeTile f t).ctn = s.ctn ∧ (s.takeTile f t).cfe = s.cfe ∧ (s.takeTile f t).lu = s.lu
    ∧ (s.takeTile f t).axe = s.axe ∧ (s.takeTile f t).tru = s.tru ∧ (s.takeTile f t).tgu = s.tgu
    ∧ (s.takeTile f t).pse = s.pse ∧ (s.takeTile f t).drive = s.drive ∧ (s.takeTile f t).reads = s.reads
    ∧ (s.takeTile f t).cause = s.cause ∧ (s.takeTile f t).free = s.free ∧ (s.takeTile f t).pending = s.pending := by
  simp only [State.takeTile]; (repeat' split) <;> simp

@[simp] theorem State.finishPost_keeps (p : Posting) (data : List Byte) :
    (s.finishPost p data).tick = s.tick ∧ (s.finishPost p data).hold = s.hold ∧ (s.finishPost p data).fpf = s.fpf
    ∧ (s.finishPost p data).ctn = s.ctn ∧ (s.finishPost p data).cfe = s.cfe ∧ (s.finishPost p data).lu = s.lu
    ∧ (s.finishPost p data).axe = s.axe ∧ (s.finishPost p data).tru = s.tru ∧ (s.finishPost p data).tgu = s.tgu
    ∧ (s.finishPost p data).pse = s.pse ∧ (s.finishPost p data).drive = s.drive ∧ (s.finishPost p data).reads = s.reads
    ∧ (s.finishPost p data).cause = s.cause ∧ (s.finishPost p data).free = s.free
    ∧ (s.finishPost p data).pending = s.pending := by
  simp only [State.finishPost]; (repeat' split) <;> simp

@[simp] theorem State.tileClosed_keeps (t : TileBody) :
    (s.tileClosed t).tick = s.tick ∧ (s.tileClosed t).hold = s.hold ∧ (s.tileClosed t).fpf = s.fpf
    ∧ (s.tileClosed t).ctn = s.ctn ∧ (s.tileClosed t).cfe = s.cfe ∧ (s.tileClosed t).lu = s.lu
    ∧ (s.tileClosed t).axe = s.axe ∧ (s.tileClosed t).tru = s.tru ∧ (s.tileClosed t).tgu = s.tgu
    ∧ (s.tileClosed t).pse = s.pse ∧ (s.tileClosed t).drive = s.drive ∧ (s.tileClosed t).panel = s.panel
    ∧ (s.tileClosed t).reads = s.reads ∧ (s.tileClosed t).cause = s.cause ∧ (s.tileClosed t).free = s.free
    ∧ (s.tileClosed t).pending = s.pending := by
  simp [State.tileClosed]

@[simp] theorem State.takeEvents_keeps (a : Byte) (k : Word) (es : List EventSlot) :
    (s.takeEvents a k es).tick = s.tick ∧ (s.takeEvents a k es).hold = s.hold ∧ (s.takeEvents a k es).fpf = s.fpf
    ∧ (s.takeEvents a k es).ctn = s.ctn ∧ (s.takeEvents a k es).cfe = s.cfe ∧ (s.takeEvents a k es).lu = s.lu
    ∧ (s.takeEvents a k es).axe = s.axe ∧ (s.takeEvents a k es).tru = s.tru ∧ (s.takeEvents a k es).tgu = s.tgu
    ∧ (s.takeEvents a k es).pse = s.pse ∧ (s.takeEvents a k es).drive = s.drive ∧ (s.takeEvents a k es).panel = s.panel
    ∧ (s.takeEvents a k es).reads = s.reads ∧ (s.takeEvents a k es).cause = s.cause ∧ (s.takeEvents a k es).free = s.free
    ∧ (s.takeEvents a k es).pending = s.pending := by
  simp [State.takeEvents]

@[simp] theorem State.forgetCarried_keeps :
    s.forgetCarried.tick = s.tick ∧ s.forgetCarried.hold = s.hold ∧ s.forgetCarried.fpf = s.fpf ∧ s.forgetCarried.ctn = s.ctn
    ∧ s.forgetCarried.cfe = s.cfe ∧ s.forgetCarried.lu = s.lu ∧ s.forgetCarried.axe = s.axe ∧ s.forgetCarried.tru = s.tru
    ∧ s.forgetCarried.tgu = s.tgu ∧ s.forgetCarried.pse = s.pse ∧ s.forgetCarried.drive = s.drive
    ∧ s.forgetCarried.panel = s.panel ∧ s.forgetCarried.reads = s.reads ∧ s.forgetCarried.cause = s.cause
    ∧ s.forgetCarried.free = s.free ∧ s.forgetCarried.pending = s.pending ∧ s.forgetCarried.teu.posting = s.teu.posting
    ∧ s.forgetCarried.teu.postSeq = s.teu.postSeq ∧ s.forgetCarried.teu.broadcast = s.teu.broadcast
    ∧ s.forgetCarried.teu.firstDue = s.teu.firstDue ∧ s.forgetCarried.teu.incoming = s.teu.incoming
    ∧ s.forgetCarried.teu.lastBroadcast = s.teu.lastBroadcast ∧ s.forgetCarried.teu.repaint = s.teu.repaint
    ∧ s.forgetCarried.teu.repaints = s.teu.repaints ∧ s.forgetCarried.teu.lastPost = s.teu.lastPost
    ∧ s.forgetCarried.teu.events = s.teu.events ∧ s.forgetCarried.teu.console = s.teu.console
    ∧ s.forgetCarried.teu.lost = s.teu.lost ∧ s.forgetCarried.teu.out = s.teu.out := by
  simp [State.forgetCarried]

@[simp] theorem State.keepCarried_keeps (k : Word) :
    (s.keepCarried k).tick = s.tick ∧ (s.keepCarried k).hold = s.hold ∧ (s.keepCarried k).fpf = s.fpf
    ∧ (s.keepCarried k).ctn = s.ctn ∧ (s.keepCarried k).cfe = s.cfe ∧ (s.keepCarried k).lu = s.lu
    ∧ (s.keepCarried k).axe = s.axe ∧ (s.keepCarried k).tru = s.tru ∧ (s.keepCarried k).tgu = s.tgu
    ∧ (s.keepCarried k).pse = s.pse ∧ (s.keepCarried k).drive = s.drive ∧ (s.keepCarried k).panel = s.panel
    ∧ (s.keepCarried k).reads = s.reads ∧ (s.keepCarried k).cause = s.cause ∧ (s.keepCarried k).free = s.free
    ∧ (s.keepCarried k).pending = s.pending ∧ (s.keepCarried k).teu.posting = s.teu.posting
    ∧ (s.keepCarried k).teu.postSeq = s.teu.postSeq ∧ (s.keepCarried k).teu.broadcast = s.teu.broadcast
    ∧ (s.keepCarried k).teu.firstDue = s.teu.firstDue ∧ (s.keepCarried k).teu.incoming = s.teu.incoming
    ∧ (s.keepCarried k).teu.lastBroadcast = s.teu.lastBroadcast ∧ (s.keepCarried k).teu.repaint = s.teu.repaint
    ∧ (s.keepCarried k).teu.repaints = s.teu.repaints ∧ (s.keepCarried k).teu.lastPost = s.teu.lastPost
    ∧ (s.keepCarried k).teu.events = s.teu.events ∧ (s.keepCarried k).teu.console = s.teu.console
    ∧ (s.keepCarried k).teu.lost = s.teu.lost ∧ (s.keepCarried k).teu.out = s.teu.out := by
  simp [State.keepCarried]

@[simp] theorem TileUnit.dropFirst_keeps (u : TileUnit) :
    u.dropFirst.posting = u.posting ∧ u.dropFirst.postSeq = u.postSeq ∧ u.dropFirst.broadcast = u.broadcast
    ∧ u.dropFirst.incoming = u.incoming ∧ u.dropFirst.lastBroadcast = u.lastBroadcast ∧ u.dropFirst.repaint = u.repaint
    ∧ u.dropFirst.repaints = u.repaints ∧ u.dropFirst.lastPost = u.lastPost ∧ u.dropFirst.events = u.events
    ∧ u.dropFirst.carried = u.carried ∧ u.dropFirst.console = u.console ∧ u.dropFirst.lost = u.lost := by
  simp [TileUnit.dropFirst]

@[simp] theorem State.commitEvents_keeps (k : Word) (es : List EventSlot) :
    (s.commitEvents k es).tick = s.tick ∧ (s.commitEvents k es).hold = s.hold ∧ (s.commitEvents k es).fpf = s.fpf
    ∧ (s.commitEvents k es).ctn = s.ctn ∧ (s.commitEvents k es).cfe = s.cfe ∧ (s.commitEvents k es).lu = s.lu
    ∧ (s.commitEvents k es).axe = s.axe ∧ (s.commitEvents k es).tru = s.tru ∧ (s.commitEvents k es).tgu = s.tgu
    ∧ (s.commitEvents k es).pse = s.pse ∧ (s.commitEvents k es).drive = s.drive ∧ (s.commitEvents k es).reads = s.reads
    ∧ (s.commitEvents k es).cause = s.cause ∧ (s.commitEvents k es).free = s.free
    ∧ (s.commitEvents k es).pending = s.pending := by
  simp only [State.commitEvents, State.when]; (repeat' split) <;> simp

@[simp] theorem State.notePool_keeps (b : State) :
    ((b.notePool s)).tick = s.tick ∧ ((b.notePool s)).hold = s.hold ∧ ((b.notePool s)).fpf = s.fpf
    ∧ ((b.notePool s)).ctn = s.ctn ∧ ((b.notePool s)).cfe = s.cfe ∧ ((b.notePool s)).lu = s.lu
    ∧ ((b.notePool s)).axe = s.axe ∧ ((b.notePool s)).tru = s.tru ∧ ((b.notePool s)).tgu = s.tgu
    ∧ ((b.notePool s)).pse = s.pse ∧ ((b.notePool s)).teu = s.teu ∧ ((b.notePool s)).drive = s.drive
    ∧ ((b.notePool s)).reads = s.reads ∧ ((b.notePool s)).cause = s.cause ∧ ((b.notePool s)).free = s.free
    ∧ ((b.notePool s)).pending = s.pending := by
  and_intros <;> (unfold State.notePool State.when; split <;> simp)

@[simp] theorem State.settleRow_keeps (k : Nat) (e : OutTile) :
    ((s.settleRow k e).1).tick = s.tick ∧ ((s.settleRow k e).1).hold = s.hold ∧ ((s.settleRow k e).1).fpf = s.fpf
    ∧ ((s.settleRow k e).1).ctn = s.ctn ∧ ((s.settleRow k e).1).cfe = s.cfe ∧ ((s.settleRow k e).1).lu = s.lu
    ∧ ((s.settleRow k e).1).axe = s.axe ∧ ((s.settleRow k e).1).tru = s.tru ∧ ((s.settleRow k e).1).tgu = s.tgu
    ∧ ((s.settleRow k e).1).pse = s.pse ∧ ((s.settleRow k e).1).drive = s.drive ∧ ((s.settleRow k e).1).panel = s.panel
    ∧ ((s.settleRow k e).1).reads = s.reads ∧ ((s.settleRow k e).1).cause = s.cause ∧ ((s.settleRow k e).1).free = s.free
    ∧ ((s.settleRow k e).1).pending = s.pending := by
  and_intros <;> (unfold State.settleRow; (repeat' split) <;> simp)

@[simp] theorem State.tileCandidate_keeps (g : Grant) :
    ((s.tileCandidate g).state).tick = s.tick ∧ ((s.tileCandidate g).state).hold = s.hold
    ∧ ((s.tileCandidate g).state).fpf = s.fpf ∧ ((s.tileCandidate g).state).ctn = s.ctn
    ∧ ((s.tileCandidate g).state).cfe = s.cfe ∧ ((s.tileCandidate g).state).lu = s.lu
    ∧ ((s.tileCandidate g).state).axe = s.axe ∧ ((s.tileCandidate g).state).tru = s.tru
    ∧ ((s.tileCandidate g).state).tgu = s.tgu ∧ ((s.tileCandidate g).state).drive = s.drive
    ∧ ((s.tileCandidate g).state).panel = s.panel ∧ ((s.tileCandidate g).state).reads = s.reads
    ∧ ((s.tileCandidate g).state).cause = s.cause ∧ ((s.tileCandidate g).state).free = s.free
    ∧ ((s.tileCandidate g).state).pending = s.pending := by
  and_intros <;> (unfold State.tileCandidate; (repeat' split) <;> simp)

@[simp] theorem State.fragmentCandidate_keeps (g : Grant) :
    ((s.fragmentCandidate g).state).tick = s.tick ∧ ((s.fragmentCandidate g).state).hold = s.hold
    ∧ ((s.fragmentCandidate g).state).fpf = s.fpf ∧ ((s.fragmentCandidate g).state).ctn = s.ctn
    ∧ ((s.fragmentCandidate g).state).cfe = s.cfe ∧ ((s.fragmentCandidate g).state).lu = s.lu
    ∧ ((s.fragmentCandidate g).state).axe = s.axe ∧ ((s.fragmentCandidate g).state).tru = s.tru
    ∧ ((s.fragmentCandidate g).state).tgu = s.tgu ∧ ((s.fragmentCandidate g).state).teu = s.teu
    ∧ ((s.fragmentCandidate g).state).drive = s.drive ∧ ((s.fragmentCandidate g).state).panel = s.panel
    ∧ ((s.fragmentCandidate g).state).reads = s.reads ∧ ((s.fragmentCandidate g).state).cause = s.cause
    ∧ ((s.fragmentCandidate g).state).free = s.free ∧ ((s.fragmentCandidate g).state).pending = s.pending := by
  and_intros <;> (unfold State.fragmentCandidate; (repeat' (first | split | (dsimp only; split))) <;> simp)

@[simp] theorem State.fragmentTurn_keeps (g : Grant) :
    ((s.fragmentTurn g).state).tick = s.tick ∧ ((s.fragmentTurn g).state).hold = s.hold
    ∧ ((s.fragmentTurn g).state).fpf = s.fpf ∧ ((s.fragmentTurn g).state).ctn = s.ctn
    ∧ ((s.fragmentTurn g).state).cfe = s.cfe ∧ ((s.fragmentTurn g).state).lu = s.lu ∧ ((s.fragmentTurn g).state).axe = s.axe
    ∧ ((s.fragmentTurn g).state).tru = s.tru ∧ ((s.fragmentTurn g).state).tgu = s.tgu
    ∧ ((s.fragmentTurn g).state).teu = s.teu ∧ ((s.fragmentTurn g).state).drive = s.drive
    ∧ ((s.fragmentTurn g).state).panel = s.panel ∧ ((s.fragmentTurn g).state).reads = s.reads
    ∧ ((s.fragmentTurn g).state).cause = s.cause ∧ ((s.fragmentTurn g).state).free = s.free
    ∧ ((s.fragmentTurn g).state).pending = s.pending := by
  and_intros <;> (unfold State.fragmentTurn; split <;> simp)

theorem State.candidate_state : s.candidate.state = s ∨ (∃ g, s.candidate.state = (s.tileCandidate g).state)
    ∨ (∃ g, s.candidate.state = ((s.tileCandidate g).state.fragmentTurn g).state) := by
  unfold State.candidate
  split
  · next g _ =>
    have h : ∀ c : Candidate, s.tileCandidate g = c →
        (match c with
          | ⟨s, some o⟩ => (⟨s, some o⟩ : Candidate)
          | ⟨s, none⟩ => s.fragmentTurn g).state = c.state
        ∨ (match c with
          | ⟨s, some o⟩ => (⟨s, some o⟩ : Candidate)
          | ⟨s, none⟩ => s.fragmentTurn g).state = (c.state.fragmentTurn g).state := by
      intro c _
      obtain ⟨t, o⟩ := c
      cases o with
      | none => exact .inr rfl
      | some o => exact .inl rfl
    rcases h _ rfl with h | h
    · exact .inr (.inl ⟨g, h⟩)
    · exact .inr (.inr ⟨g, h⟩)
  · exact .inl rfl

@[simp] theorem State.candidate_keeps :
    s.candidate.state.tick = s.tick ∧ s.candidate.state.hold = s.hold ∧ s.candidate.state.fpf = s.fpf
    ∧ s.candidate.state.ctn = s.ctn ∧ s.candidate.state.cfe = s.cfe ∧ s.candidate.state.lu = s.lu
    ∧ s.candidate.state.axe = s.axe ∧ s.candidate.state.tru = s.tru ∧ s.candidate.state.tgu = s.tgu
    ∧ s.candidate.state.drive = s.drive ∧ s.candidate.state.panel = s.panel ∧ s.candidate.state.reads = s.reads
    ∧ s.candidate.state.cause = s.cause ∧ s.candidate.state.free = s.free ∧ s.candidate.state.pending = s.pending := by
  and_intros <;> (rcases s.candidate_state with h | ⟨g, h⟩ | ⟨g, h⟩ <;> rw [h] <;> simp)

@[simp] theorem State.renewOffer_keeps :
    s.renewOffer.tick = s.tick ∧ s.renewOffer.hold = s.hold ∧ s.renewOffer.fpf = s.fpf ∧ s.renewOffer.ctn = s.ctn
    ∧ s.renewOffer.cfe = s.cfe ∧ s.renewOffer.lu = s.lu ∧ s.renewOffer.axe = s.axe ∧ s.renewOffer.tru = s.tru
    ∧ s.renewOffer.tgu = s.tgu ∧ s.renewOffer.drive = s.drive ∧ s.renewOffer.panel = s.panel ∧ s.renewOffer.reads = s.reads
    ∧ s.renewOffer.cause = s.cause ∧ s.renewOffer.free = s.free ∧ s.renewOffer.pending = s.pending := by
  and_intros <;> (simp only [State.renewOffer]; (repeat' split) <;> simp)

theorem State.candidate_origin {o : Origin} {f : Frame} {p : FibrePort} (h : s.candidate.offered = some (o, f, p)) :
    o.noted = false := by
  have tile (g : Grant) {o f p} (h : (s.tileCandidate g).offered = some (o, f, p)) : o.noted = false := by
    unfold State.tileCandidate at h
    (repeat' split at h) <;> simp at h
    rw [← h.1]; rfl
  have frag (s : State) (g : Grant) {o f p} (h : (s.fragmentCandidate g).offered = some (o, f, p)) : o.noted = false := by
    unfold State.fragmentCandidate at h
    dsimp only at h
    (repeat' split at h) <;> simp at h <;> (rw [← h.1]; rfl)
  unfold State.candidate at h
  split at h
  · next g _ =>
    generalize hc : s.tileCandidate g = c at h
    obtain ⟨t, q⟩ := c
    cases q with
    | none =>
      dsimp only at h
      unfold State.fragmentTurn at h
      split at h
      · simp at h
      · exact frag _ _ h
    | some q => exact tile g (by rw [hc]; exact h)
  · simp at h

theorem State.renewOffer_origin {o : Offer} (h : s.renewOffer.pse.offer = some o) : o.origin.noted = false := by
  unfold State.renewOffer at h
  dsimp only at h
  split at h
  · next origin f p hc =>
    simp only [State.onPse_fields, Option.some.injEq] at h
    have hq := s.candidate_origin hc
    split at h
    · split at h
      · next hb => rw [← h]; simp at hb; rw [hb.1.1]; exact hq
      · rw [← h]; unfold State.presentOffer; split <;> exact hq
    · rw [← h]; unfold State.presentOffer; split <;> exact hq
  · simp at h

@[simp] theorem State.tileStarted_keeps (t : TileBody) (n : Nat) :
    (s.tileStarted t n).tick = s.tick ∧ (s.tileStarted t n).hold = s.hold ∧ (s.tileStarted t n).fpf = s.fpf
    ∧ (s.tileStarted t n).ctn = s.ctn ∧ (s.tileStarted t n).cfe = s.cfe ∧ (s.tileStarted t n).lu = s.lu
    ∧ (s.tileStarted t n).axe = s.axe ∧ (s.tileStarted t n).tru = s.tru ∧ (s.tileStarted t n).tgu = s.tgu
    ∧ (s.tileStarted t n).drive = s.drive ∧ (s.tileStarted t n).panel = s.panel ∧ (s.tileStarted t n).reads = s.reads
    ∧ (s.tileStarted t n).cause = s.cause ∧ (s.tileStarted t n).free = s.free ∧ (s.tileStarted t n).pending = s.pending := by
  simp [State.tileStarted]

@[simp] theorem State.startOffer_keeps (o : Offer) :
    (s.startOffer o).tick = s.tick ∧ (s.startOffer o).hold = s.hold ∧ (s.startOffer o).ctn.state = s.ctn.state
    ∧ (s.startOffer o).ctn.config = s.ctn.config ∧ (s.startOffer o).ctn.limits = s.ctn.limits
    ∧ (s.startOffer o).ctn.boundary = s.ctn.boundary ∧ (s.startOffer o).ctn.next = s.ctn.next
    ∧ (s.startOffer o).ctn.idleSince = s.ctn.idleSince ∧ (s.startOffer o).ctn.cycle = s.ctn.cycle
    ∧ (s.startOffer o).ctn.plan = s.ctn.plan ∧ (s.startOffer o).ctn.breakIx = s.ctn.breakIx
    ∧ (s.startOffer o).ctn.fol = s.ctn.fol ∧ (s.startOffer o).ctn.window = s.ctn.window
    ∧ (s.startOffer o).ctn.windowClose = s.ctn.windowClose ∧ (s.startOffer o).cfe = s.cfe ∧ (s.startOffer o).lu = s.lu
    ∧ (s.startOffer o).axe = s.axe ∧ (s.startOffer o).tru = s.tru ∧ (s.startOffer o).tgu = s.tgu
    ∧ (s.startOffer o).drive = s.drive ∧ (s.startOffer o).panel = s.panel ∧ (s.startOffer o).reads = s.reads
    ∧ (s.startOffer o).cause = s.cause ∧ (s.startOffer o).free = s.free ∧ (s.startOffer o).pending = s.pending := by
  and_intros <;> (unfold State.startOffer; dsimp only; simp only [State.transmit_keeps]; (repeat' split) <;> simp)

theorem State.transmit_ctn (p : FibrePort) (o : OutFrame) (t : Word) (n : Nat) (u : Option Word) (h : o.origin.noted = false) :
    (s.transmit p o t n u).ctn = s.ctn := by
  unfold State.transmit; rw [State.departed_unnoted _ _ _ h]; simp

theorem State.startOffer_ctn (o : Offer) (h : o.origin.noted = false) : (s.startOffer o).ctn = s.ctn := by
  unfold State.startOffer; dsimp only; rw [State.transmit_ctn _ _ _ _ _ _ h]; (repeat' split) <;> simp

@[simp] theorem State.offerOnce_ctn : s.offerOnce.ctn = s.ctn := by
  unfold State.offerOnce; dsimp only
  split
  · next o h =>
    split
    · rw [State.startOffer_ctn _ _ (State.renewOffer_origin _ h)]; simp
    · simp
  · simp

@[simp] theorem State.refreshOffers_ctn : s.refreshOffers.ctn = s.ctn := by
  simp [State.refreshOffers]

@[simp] theorem State.offerOnce_keeps :
    s.offerOnce.tick = s.tick ∧ s.offerOnce.hold = s.hold ∧ s.offerOnce.ctn.state = s.ctn.state
    ∧ s.offerOnce.ctn.config = s.ctn.config ∧ s.offerOnce.ctn.limits = s.ctn.limits
    ∧ s.offerOnce.ctn.boundary = s.ctn.boundary ∧ s.offerOnce.ctn.next = s.ctn.next
    ∧ s.offerOnce.ctn.idleSince = s.ctn.idleSince ∧ s.offerOnce.ctn.cycle = s.ctn.cycle ∧ s.offerOnce.ctn.plan = s.ctn.plan
    ∧ s.offerOnce.ctn.breakIx = s.ctn.breakIx ∧ s.offerOnce.ctn.fol = s.ctn.fol ∧ s.offerOnce.ctn.window = s.ctn.window
    ∧ s.offerOnce.ctn.windowClose = s.ctn.windowClose ∧ s.offerOnce.cfe = s.cfe ∧ s.offerOnce.lu = s.lu
    ∧ s.offerOnce.axe = s.axe ∧ s.offerOnce.tru = s.tru ∧ s.offerOnce.tgu = s.tgu ∧ s.offerOnce.drive = s.drive
    ∧ s.offerOnce.panel = s.panel ∧ s.offerOnce.reads = s.reads ∧ s.offerOnce.cause = s.cause ∧ s.offerOnce.free = s.free
    ∧ s.offerOnce.pending = s.pending := by
  simp only [State.offerOnce]; (repeat' split) <;> simp

@[simp] theorem State.refreshOffers_keeps :
    s.refreshOffers.tick = s.tick ∧ s.refreshOffers.hold = s.hold ∧ s.refreshOffers.ctn = s.ctn
    ∧ s.refreshOffers.cfe = s.cfe ∧ s.refreshOffers.lu = s.lu ∧ s.refreshOffers.axe = s.axe ∧ s.refreshOffers.tru = s.tru
    ∧ s.refreshOffers.tgu = s.tgu ∧ s.refreshOffers.drive = s.drive ∧ s.refreshOffers.panel = s.panel
    ∧ s.refreshOffers.reads = s.reads ∧ s.refreshOffers.cause = s.cause ∧ s.refreshOffers.free = s.free
    ∧ s.refreshOffers.pending = s.pending := by
  simp [State.refreshOffers]

@[simp] theorem State.representAll_keeps (p : FibrePort) (l : List OutFrame) :
    ((l.foldl (fun s o => s.represent p o) s)).tick = s.tick ∧ ((l.foldl (fun s o => s.represent p o) s)).hold = s.hold
    ∧ ((l.foldl (fun s o => s.represent p o) s)).ctn.state = s.ctn.state
    ∧ ((l.foldl (fun s o => s.represent p o) s)).ctn.config = s.ctn.config
    ∧ ((l.foldl (fun s o => s.represent p o) s)).ctn.limits = s.ctn.limits
    ∧ ((l.foldl (fun s o => s.represent p o) s)).ctn.boundary = s.ctn.boundary
    ∧ ((l.foldl (fun s o => s.represent p o) s)).ctn.next = s.ctn.next
    ∧ ((l.foldl (fun s o => s.represent p o) s)).ctn.idleSince = s.ctn.idleSince
    ∧ ((l.foldl (fun s o => s.represent p o) s)).ctn.cycle = s.ctn.cycle
    ∧ ((l.foldl (fun s o => s.represent p o) s)).ctn.plan = s.ctn.plan
    ∧ ((l.foldl (fun s o => s.represent p o) s)).ctn.breakIx = s.ctn.breakIx
    ∧ ((l.foldl (fun s o => s.represent p o) s)).ctn.fol = s.ctn.fol
    ∧ ((l.foldl (fun s o => s.represent p o) s)).ctn.window = s.ctn.window
    ∧ ((l.foldl (fun s o => s.represent p o) s)).ctn.windowClose = s.ctn.windowClose
    ∧ ((l.foldl (fun s o => s.represent p o) s)).cfe = s.cfe ∧ ((l.foldl (fun s o => s.represent p o) s)).lu = s.lu
    ∧ ((l.foldl (fun s o => s.represent p o) s)).axe = s.axe ∧ ((l.foldl (fun s o => s.represent p o) s)).tru = s.tru
    ∧ ((l.foldl (fun s o => s.represent p o) s)).tgu = s.tgu ∧ ((l.foldl (fun s o => s.represent p o) s)).drive = s.drive
    ∧ ((l.foldl (fun s o => s.represent p o) s)).reads = s.reads ∧ ((l.foldl (fun s o => s.represent p o) s)).cause = s.cause
    ∧ ((l.foldl (fun s o => s.represent p o) s)).free = s.free
    ∧ ((l.foldl (fun s o => s.represent p o) s)).pending = s.pending := by
  and_intros <;> (first | exact foldl_keeps _ _ (fun s b => by simp) _ _ | exact foldl_keepsCtn _ _ (fun s b => by simp) _ _)

@[simp] theorem State.portDown_keeps (p : FibrePort) :
    (s.portDown p).tick = s.tick ∧ (s.portDown p).hold = s.hold ∧ (s.portDown p).ctn.state = s.ctn.state
    ∧ (s.portDown p).ctn.config = s.ctn.config ∧ (s.portDown p).ctn.limits = s.ctn.limits
    ∧ (s.portDown p).ctn.boundary = s.ctn.boundary ∧ (s.portDown p).ctn.next = s.ctn.next
    ∧ (s.portDown p).ctn.idleSince = s.ctn.idleSince ∧ (s.portDown p).ctn.cycle = s.ctn.cycle
    ∧ (s.portDown p).ctn.plan = s.ctn.plan ∧ (s.portDown p).ctn.breakIx = s.ctn.breakIx ∧ (s.portDown p).ctn.fol = s.ctn.fol
    ∧ (s.portDown p).ctn.window = s.ctn.window ∧ (s.portDown p).ctn.windowClose = s.ctn.windowClose
    ∧ (s.portDown p).cfe = s.cfe ∧ (s.portDown p).lu = s.lu ∧ (s.portDown p).axe = s.axe ∧ (s.portDown p).tru = s.tru
    ∧ (s.portDown p).tgu = s.tgu ∧ (s.portDown p).reads = s.reads ∧ (s.portDown p).cause = s.cause
    ∧ (s.portDown p).free = s.free ∧ (s.portDown p).pending = s.pending := by
  simp [State.portDown]

@[simp] theorem State.takeOwnSection_keeps (x : Section) (k : Word) :
    (s.takeOwnSection x k).tick = s.tick ∧ (s.takeOwnSection x k).hold = s.hold ∧ (s.takeOwnSection x k).fpf = s.fpf
    ∧ (s.takeOwnSection x k).ctn = s.ctn ∧ (s.takeOwnSection x k).lu = s.lu ∧ (s.takeOwnSection x k).axe = s.axe
    ∧ (s.takeOwnSection x k).tru = s.tru ∧ (s.takeOwnSection x k).tgu = s.tgu ∧ (s.takeOwnSection x k).pse = s.pse
    ∧ (s.takeOwnSection x k).teu = s.teu ∧ (s.takeOwnSection x k).drive = s.drive ∧ (s.takeOwnSection x k).panel = s.panel
    ∧ (s.takeOwnSection x k).reads = s.reads ∧ (s.takeOwnSection x k).cause = s.cause ∧ (s.takeOwnSection x k).free = s.free
    ∧ (s.takeOwnSection x k).pending = s.pending := by
  simp [State.takeOwnSection]

@[simp] theorem State.madeWrite_keeps (w : SectionWrite) :
    (s.madeWrite w).tick = s.tick ∧ (s.madeWrite w).hold = s.hold ∧ (s.madeWrite w).fpf = s.fpf
    ∧ (s.madeWrite w).ctn = s.ctn ∧ (s.madeWrite w).lu = s.lu ∧ (s.madeWrite w).axe = s.axe ∧ (s.madeWrite w).tru = s.tru
    ∧ (s.madeWrite w).tgu = s.tgu ∧ (s.madeWrite w).pse = s.pse ∧ (s.madeWrite w).drive = s.drive
    ∧ (s.madeWrite w).reads = s.reads ∧ (s.madeWrite w).cause = s.cause ∧ (s.madeWrite w).free = s.free
    ∧ (s.madeWrite w).pending = s.pending := by
  simp [State.madeWrite]

@[simp] theorem State.replaceSection_keeps (i : Fin 48) (x : Section) (k : Word) (b : Bool) :
    (s.replaceSection i x k b).tick = s.tick ∧ (s.replaceSection i x k b).hold = s.hold
    ∧ (s.replaceSection i x k b).fpf = s.fpf ∧ (s.replaceSection i x k b).ctn = s.ctn ∧ (s.replaceSection i x k b).lu = s.lu
    ∧ (s.replaceSection i x k b).axe = s.axe ∧ (s.replaceSection i x k b).tgu = s.tgu
    ∧ (s.replaceSection i x k b).pse = s.pse ∧ (s.replaceSection i x k b).drive = s.drive
    ∧ (s.replaceSection i x k b).reads = s.reads ∧ (s.replaceSection i x k b).cause = s.cause
    ∧ (s.replaceSection i x k b).free = s.free ∧ (s.replaceSection i x k b).pending = s.pending := by
  simp only [State.replaceSection]; (repeat' split) <;> simp

@[simp] theorem State.offerSection_keeps (k : Word) (x : Section) :
    (s.offerSection k x).tick = s.tick ∧ (s.offerSection k x).hold = s.hold ∧ (s.offerSection k x).fpf = s.fpf
    ∧ (s.offerSection k x).ctn = s.ctn ∧ (s.offerSection k x).lu = s.lu ∧ (s.offerSection k x).axe = s.axe
    ∧ (s.offerSection k x).tgu = s.tgu ∧ (s.offerSection k x).pse = s.pse ∧ (s.offerSection k x).drive = s.drive
    ∧ (s.offerSection k x).reads = s.reads ∧ (s.offerSection k x).cause = s.cause ∧ (s.offerSection k x).free = s.free
    ∧ (s.offerSection k x).pending = s.pending := by
  simp only [State.offerSection]; (repeat' split) <;> simp

@[simp] theorem State.keepPlan_keeps (plan : List Byte) :
    (s.keepPlan plan).tick = s.tick ∧ (s.keepPlan plan).hold = s.hold ∧ (s.keepPlan plan).fpf = s.fpf
    ∧ (s.keepPlan plan).ctn = s.ctn ∧ (s.keepPlan plan).lu = s.lu ∧ (s.keepPlan plan).axe = s.axe
    ∧ (s.keepPlan plan).tgu = s.tgu ∧ (s.keepPlan plan).pse = s.pse ∧ (s.keepPlan plan).drive = s.drive
    ∧ (s.keepPlan plan).panel = s.panel ∧ (s.keepPlan plan).reads = s.reads ∧ (s.keepPlan plan).cause = s.cause
    ∧ (s.keepPlan plan).free = s.free ∧ (s.keepPlan plan).pending = s.pending := by
  simp [State.keepPlan]

@[simp] theorem State.mergeSection_keeps (k : Word) (j : Nat) (a : Byte) :
    (s.mergeSection k j a).tick = s.tick ∧ (s.mergeSection k j a).hold = s.hold ∧ (s.mergeSection k j a).fpf = s.fpf
    ∧ (s.mergeSection k j a).ctn = s.ctn ∧ (s.mergeSection k j a).lu = s.lu ∧ (s.mergeSection k j a).axe = s.axe
    ∧ (s.mergeSection k j a).tgu = s.tgu ∧ (s.mergeSection k j a).pse = s.pse ∧ (s.mergeSection k j a).drive = s.drive
    ∧ (s.mergeSection k j a).reads = s.reads ∧ (s.mergeSection k j a).cause = s.cause ∧ (s.mergeSection k j a).free = s.free
    ∧ (s.mergeSection k j a).pending = s.pending := by
  simp only [State.mergeSection]; (repeat' split) <;> simp

@[simp] theorem State.mergeAll_keeps (k : Word) (l : List (Byte × Nat)) :
    ((l.foldl (fun s x => s.mergeSection k x.2 x.1) s)).tick = s.tick
    ∧ ((l.foldl (fun s x => s.mergeSection k x.2 x.1) s)).hold = s.hold
    ∧ ((l.foldl (fun s x => s.mergeSection k x.2 x.1) s)).fpf = s.fpf
    ∧ ((l.foldl (fun s x => s.mergeSection k x.2 x.1) s)).ctn = s.ctn
    ∧ ((l.foldl (fun s x => s.mergeSection k x.2 x.1) s)).lu = s.lu
    ∧ ((l.foldl (fun s x => s.mergeSection k x.2 x.1) s)).axe = s.axe
    ∧ ((l.foldl (fun s x => s.mergeSection k x.2 x.1) s)).tgu = s.tgu
    ∧ ((l.foldl (fun s x => s.mergeSection k x.2 x.1) s)).pse = s.pse
    ∧ ((l.foldl (fun s x => s.mergeSection k x.2 x.1) s)).drive = s.drive
    ∧ ((l.foldl (fun s x => s.mergeSection k x.2 x.1) s)).reads = s.reads
    ∧ ((l.foldl (fun s x => s.mergeSection k x.2 x.1) s)).cause = s.cause
    ∧ ((l.foldl (fun s x => s.mergeSection k x.2 x.1) s)).free = s.free
    ∧ ((l.foldl (fun s x => s.mergeSection k x.2 x.1) s)).pending = s.pending := by
  and_intros <;> exact foldl_keeps _ _ (fun s b => by simp) _ _

@[simp] theorem State.merge_keeps (k : Word) :
    (s.merge k).tick = s.tick ∧ (s.merge k).hold = s.hold ∧ (s.merge k).fpf = s.fpf ∧ (s.merge k).ctn = s.ctn
    ∧ (s.merge k).lu = s.lu ∧ (s.merge k).pse = s.pse ∧ (s.merge k).reads = s.reads ∧ (s.merge k).cause = s.cause
    ∧ (s.merge k).free = s.free ∧ (s.merge k).pending = s.pending := by
  simp [State.merge]

@[simp] theorem State.setBreak_keeps (b : BreakIndex) :
    (s.setBreak b).tick = s.tick ∧ (s.setBreak b).hold = s.hold ∧ (s.setBreak b).ctn.state = s.ctn.state
    ∧ (s.setBreak b).ctn.config = s.ctn.config ∧ (s.setBreak b).ctn.limits = s.ctn.limits
    ∧ (s.setBreak b).ctn.boundary = s.ctn.boundary ∧ (s.setBreak b).ctn.next = s.ctn.next
    ∧ (s.setBreak b).ctn.idleSince = s.ctn.idleSince ∧ (s.setBreak b).ctn.cycle = s.ctn.cycle
    ∧ (s.setBreak b).ctn.plan = s.ctn.plan ∧ (s.setBreak b).ctn.fol = s.ctn.fol ∧ (s.setBreak b).ctn.line = s.ctn.line
    ∧ (s.setBreak b).ctn.window = s.ctn.window ∧ (s.setBreak b).ctn.windowClose = s.ctn.windowClose
    ∧ (s.setBreak b).cfe = s.cfe ∧ (s.setBreak b).lu = s.lu ∧ (s.setBreak b).axe = s.axe ∧ (s.setBreak b).tru = s.tru
    ∧ (s.setBreak b).tgu = s.tgu ∧ (s.setBreak b).pse = s.pse ∧ (s.setBreak b).teu = s.teu ∧ (s.setBreak b).panel = s.panel
    ∧ (s.setBreak b).reads = s.reads ∧ (s.setBreak b).cause = s.cause ∧ (s.setBreak b).free = s.free
    ∧ (s.setBreak b).pending = s.pending := by
  simp only [State.setBreak]; (repeat' split) <;> simp

@[simp] theorem State.sendCycle_keeps (b : Bool) :
    (s.sendCycle b).tick = s.tick ∧ (s.sendCycle b).hold = s.hold ∧ (s.sendCycle b).ctn.state = s.ctn.state
    ∧ (s.sendCycle b).ctn.config = s.ctn.config ∧ (s.sendCycle b).ctn.limits = s.ctn.limits
    ∧ (s.sendCycle b).ctn.boundary = s.ctn.boundary ∧ (s.sendCycle b).ctn.next = s.ctn.next
    ∧ (s.sendCycle b).ctn.idleSince = s.ctn.idleSince ∧ (s.sendCycle b).ctn.cycle = s.ctn.cycle
    ∧ (s.sendCycle b).ctn.plan = s.ctn.plan ∧ (s.sendCycle b).ctn.breakIx = s.ctn.breakIx
    ∧ (s.sendCycle b).ctn.fol = s.ctn.fol ∧ (s.sendCycle b).ctn.window = s.ctn.window
    ∧ (s.sendCycle b).ctn.windowClose = s.ctn.windowClose ∧ (s.sendCycle b).lu = s.lu ∧ (s.sendCycle b).axe = s.axe
    ∧ (s.sendCycle b).tru = s.tru ∧ (s.sendCycle b).tgu = s.tgu ∧ (s.sendCycle b).drive = s.drive
    ∧ (s.sendCycle b).reads = s.reads ∧ (s.sendCycle b).cause = s.cause ∧ (s.sendCycle b).pending = s.pending := by
  and_intros <;> (unfold State.sendCycle; simp)

@[simp] theorem State.addStamps_keeps (l : List Pulse) :
    ((l.foldl (fun s x => s.addStamp x.content) s)).tick = s.tick
    ∧ ((l.foldl (fun s x => s.addStamp x.content) s)).hold = s.hold
    ∧ ((l.foldl (fun s x => s.addStamp x.content) s)).fpf = s.fpf
    ∧ ((l.foldl (fun s x => s.addStamp x.content) s)).ctn = s.ctn
    ∧ ((l.foldl (fun s x => s.addStamp x.content) s)).cfe = s.cfe
    ∧ ((l.foldl (fun s x => s.addStamp x.content) s)).lu = s.lu
    ∧ ((l.foldl (fun s x => s.addStamp x.content) s)).axe = s.axe
    ∧ ((l.foldl (fun s x => s.addStamp x.content) s)).tru = s.tru
    ∧ ((l.foldl (fun s x => s.addStamp x.content) s)).pse = s.pse
    ∧ ((l.foldl (fun s x => s.addStamp x.content) s)).teu = s.teu
    ∧ ((l.foldl (fun s x => s.addStamp x.content) s)).drive = s.drive
    ∧ ((l.foldl (fun s x => s.addStamp x.content) s)).reads = s.reads
    ∧ ((l.foldl (fun s x => s.addStamp x.content) s)).cause = s.cause
    ∧ ((l.foldl (fun s x => s.addStamp x.content) s)).free = s.free
    ∧ ((l.foldl (fun s x => s.addStamp x.content) s)).pending = s.pending := by
  and_intros <;> exact foldl_keeps _ _ (fun s b => by simp) _ _

@[simp] theorem State.beginDue_keeps :
    s.beginDue.tick = s.tick ∧ s.beginDue.hold = s.hold ∧ s.beginDue.fpf = s.fpf ∧ s.beginDue.ctn = s.ctn
    ∧ s.beginDue.cfe = s.cfe ∧ s.beginDue.lu = s.lu ∧ s.beginDue.axe = s.axe ∧ s.beginDue.tru = s.tru
    ∧ s.beginDue.pse = s.pse ∧ s.beginDue.teu = s.teu ∧ s.beginDue.drive = s.drive ∧ s.beginDue.reads = s.reads
    ∧ s.beginDue.cause = s.cause ∧ s.beginDue.free = s.free ∧ s.beginDue.pending = s.pending := by
  simp [State.beginDue]

@[simp] theorem State.leaveCycling_keeps :
    s.leaveCycling.tick = s.tick ∧ s.leaveCycling.hold = s.hold ∧ s.leaveCycling.fpf = s.fpf
    ∧ s.leaveCycling.ctn.state = s.ctn.state ∧ s.leaveCycling.ctn.config = s.ctn.config
    ∧ s.leaveCycling.ctn.limits = s.ctn.limits ∧ s.leaveCycling.ctn.boundary = s.ctn.boundary
    ∧ s.leaveCycling.ctn.next = s.ctn.next ∧ s.leaveCycling.ctn.idleSince = s.ctn.idleSince
    ∧ s.leaveCycling.ctn.cycle = s.ctn.cycle ∧ s.leaveCycling.ctn.plan = s.ctn.plan
    ∧ s.leaveCycling.ctn.breakIx = s.ctn.breakIx ∧ s.leaveCycling.ctn.fol = s.ctn.fol ∧ s.leaveCycling.ctn.line = s.ctn.line
    ∧ s.leaveCycling.ctn.windowClose = s.ctn.windowClose ∧ s.leaveCycling.cfe = s.cfe ∧ s.leaveCycling.lu = s.lu
    ∧ s.leaveCycling.tru = s.tru ∧ s.leaveCycling.teu = s.teu ∧ s.leaveCycling.drive = s.drive
    ∧ s.leaveCycling.reads = s.reads ∧ s.leaveCycling.cause = s.cause ∧ s.leaveCycling.free = s.free
    ∧ s.leaveCycling.pending = s.pending := by
  simp [State.leaveCycling]

@[simp] theorem State.setNodeState_keeps (st : NodeState) :
    (s.setNodeState st).tick = s.tick ∧ (s.setNodeState st).hold = s.hold ∧ (s.setNodeState st).fpf = s.fpf
    ∧ (s.setNodeState st).ctn.config = s.ctn.config ∧ (s.setNodeState st).ctn.limits = s.ctn.limits
    ∧ (s.setNodeState st).ctn.boundary = s.ctn.boundary ∧ (s.setNodeState st).ctn.next = s.ctn.next
    ∧ (s.setNodeState st).ctn.idleSince = s.ctn.idleSince ∧ (s.setNodeState st).ctn.cycle = s.ctn.cycle
    ∧ (s.setNodeState st).ctn.plan = s.ctn.plan ∧ (s.setNodeState st).ctn.breakIx = s.ctn.breakIx
    ∧ (s.setNodeState st).ctn.fol = s.ctn.fol ∧ (s.setNodeState st).ctn.line = s.ctn.line
    ∧ (s.setNodeState st).ctn.windowClose = s.ctn.windowClose ∧ (s.setNodeState st).cfe = s.cfe
    ∧ (s.setNodeState st).lu = s.lu ∧ (s.setNodeState st).tru = s.tru ∧ (s.setNodeState st).teu = s.teu
    ∧ (s.setNodeState st).reads = s.reads ∧ (s.setNodeState st).cause = s.cause ∧ (s.setNodeState st).free = s.free
    ∧ (s.setNodeState st).pending = s.pending := by
  simp only [State.setNodeState, State.when]; (repeat' split) <;> simp

@[simp] theorem State.unstage_keeps :
    s.unstage.tick = s.tick ∧ s.unstage.hold = s.hold ∧ s.unstage.ctn = s.ctn ∧ s.unstage.cfe = s.cfe ∧ s.unstage.lu = s.lu
    ∧ s.unstage.axe = s.axe ∧ s.unstage.tru = s.tru ∧ s.unstage.tgu = s.tgu ∧ s.unstage.pse = s.pse ∧ s.unstage.teu = s.teu
    ∧ s.unstage.drive = s.drive ∧ s.unstage.panel = s.panel ∧ s.unstage.reads = s.reads ∧ s.unstage.cause = s.cause
    ∧ s.unstage.free = s.free ∧ s.unstage.pending = s.pending := by
  simp [State.unstage]

@[simp] theorem State.enterPassive_keeps :
    s.enterPassive.tick = s.tick ∧ s.enterPassive.hold = s.hold ∧ s.enterPassive.ctn.config = s.ctn.config
    ∧ s.enterPassive.ctn.limits = s.ctn.limits ∧ s.enterPassive.ctn.next = s.ctn.next
    ∧ s.enterPassive.ctn.windowClose = s.ctn.windowClose ∧ s.enterPassive.cfe = s.cfe ∧ s.enterPassive.lu = s.lu
    ∧ s.enterPassive.reads = s.reads ∧ s.enterPassive.cause = s.cause ∧ s.enterPassive.pending = s.pending := by
  simp [State.enterPassive, Ctn.passive, Ctn.stopBoundary]

@[simp] theorem State.conflict_keeps :
    s.conflict.tick = s.tick ∧ s.conflict.hold = s.hold ∧ s.conflict.ctn.config = s.ctn.config
    ∧ s.conflict.ctn.limits = s.ctn.limits ∧ s.conflict.ctn.next = s.ctn.next ∧ s.conflict.ctn.windowClose = s.ctn.windowClose
    ∧ s.conflict.cfe = s.cfe ∧ s.conflict.reads = s.reads ∧ s.conflict.cause = s.cause ∧ s.conflict.pending = s.pending := by
  simp [State.conflict]

@[simp] theorem State.noteConsole_keeps (b : State) :
    ((b.noteConsole s)).tick = s.tick ∧ ((b.noteConsole s)).hold = s.hold ∧ ((b.noteConsole s)).fpf = s.fpf
    ∧ ((b.noteConsole s)).ctn = s.ctn ∧ ((b.noteConsole s)).cfe = s.cfe ∧ ((b.noteConsole s)).lu = s.lu
    ∧ ((b.noteConsole s)).axe = s.axe ∧ ((b.noteConsole s)).tru = s.tru ∧ ((b.noteConsole s)).tgu = s.tgu
    ∧ ((b.noteConsole s)).drive = s.drive ∧ ((b.noteConsole s)).reads = s.reads ∧ ((b.noteConsole s)).cause = s.cause
    ∧ ((b.noteConsole s)).pending = s.pending := by
  and_intros <;> (unfold State.noteConsole; (repeat' split) <;> simp)

@[simp] theorem State.portsAtBoundary_keeps :
    s.portsAtBoundary.tick = s.tick ∧ s.portsAtBoundary.hold = s.hold ∧ s.portsAtBoundary.ctn.state = s.ctn.state
    ∧ s.portsAtBoundary.ctn.config = s.ctn.config ∧ s.portsAtBoundary.ctn.limits = s.ctn.limits
    ∧ s.portsAtBoundary.ctn.boundary = s.ctn.boundary ∧ s.portsAtBoundary.ctn.next = s.ctn.next
    ∧ s.portsAtBoundary.ctn.idleSince = s.ctn.idleSince ∧ s.portsAtBoundary.ctn.cycle = s.ctn.cycle
    ∧ s.portsAtBoundary.ctn.plan = s.ctn.plan ∧ s.portsAtBoundary.ctn.breakIx = s.ctn.breakIx
    ∧ s.portsAtBoundary.ctn.fol = s.ctn.fol ∧ s.portsAtBoundary.ctn.window = s.ctn.window
    ∧ s.portsAtBoundary.ctn.windowClose = s.ctn.windowClose ∧ s.portsAtBoundary.cfe = s.cfe ∧ s.portsAtBoundary.lu = s.lu
    ∧ s.portsAtBoundary.reads = s.reads ∧ s.portsAtBoundary.cause = s.cause ∧ s.portsAtBoundary.pending = s.pending := by
  simp only [State.portsAtBoundary]; (repeat' split) <;> simp

@[simp] theorem State.boundaryWork_keeps :
    s.boundaryWork.tick = s.tick ∧ s.boundaryWork.hold = s.hold ∧ s.boundaryWork.ctn.state = s.ctn.state
    ∧ s.boundaryWork.ctn.config = s.ctn.config ∧ s.boundaryWork.ctn.limits = s.ctn.limits
    ∧ s.boundaryWork.ctn.boundary = s.ctn.boundary ∧ s.boundaryWork.ctn.next = s.ctn.next
    ∧ s.boundaryWork.ctn.idleSince = s.ctn.idleSince ∧ s.boundaryWork.ctn.cycle = s.ctn.cycle
    ∧ s.boundaryWork.ctn.plan = s.ctn.plan ∧ s.boundaryWork.ctn.breakIx = s.ctn.breakIx ∧ s.boundaryWork.ctn.fol = s.ctn.fol
    ∧ s.boundaryWork.ctn.window = s.ctn.window ∧ s.boundaryWork.ctn.windowClose = s.ctn.windowClose
    ∧ s.boundaryWork.cfe = s.cfe ∧ s.boundaryWork.lu = s.lu ∧ s.boundaryWork.cause = s.cause
    ∧ s.boundaryWork.pending = s.pending := by
  simp [State.boundaryWork]

@[simp] theorem State.sendProbe_keeps (p : FibrePort) :
    (s.sendProbe p).tick = s.tick ∧ (s.sendProbe p).hold = s.hold ∧ (s.sendProbe p).ctn.state = s.ctn.state
    ∧ (s.sendProbe p).ctn.config = s.ctn.config ∧ (s.sendProbe p).ctn.limits = s.ctn.limits
    ∧ (s.sendProbe p).ctn.boundary = s.ctn.boundary ∧ (s.sendProbe p).ctn.next = s.ctn.next
    ∧ (s.sendProbe p).ctn.idleSince = s.ctn.idleSince ∧ (s.sendProbe p).ctn.cycle = s.ctn.cycle
    ∧ (s.sendProbe p).ctn.plan = s.ctn.plan ∧ (s.sendProbe p).ctn.breakIx = s.ctn.breakIx
    ∧ (s.sendProbe p).ctn.fol = s.ctn.fol ∧ (s.sendProbe p).ctn.window = s.ctn.window
    ∧ (s.sendProbe p).ctn.windowClose = s.ctn.windowClose ∧ (s.sendProbe p).cfe = s.cfe ∧ (s.sendProbe p).lu = s.lu
    ∧ (s.sendProbe p).axe = s.axe ∧ (s.sendProbe p).tru = s.tru ∧ (s.sendProbe p).tgu = s.tgu
    ∧ (s.sendProbe p).drive = s.drive ∧ (s.sendProbe p).reads = s.reads ∧ (s.sendProbe p).cause = s.cause
    ∧ (s.sendProbe p).free = s.free ∧ (s.sendProbe p).pending = s.pending := by
  simp [State.sendProbe]

@[simp] theorem State.beginCycling_keeps :
    s.beginCycling.tick = s.tick ∧ s.beginCycling.hold = s.hold ∧ s.beginCycling.ctn.state = s.ctn.state
    ∧ s.beginCycling.ctn.config = s.ctn.config ∧ s.beginCycling.ctn.limits = s.ctn.limits
    ∧ s.beginCycling.ctn.idleSince = s.ctn.idleSince ∧ s.beginCycling.ctn.plan = s.ctn.plan
    ∧ s.beginCycling.ctn.breakIx = s.ctn.breakIx ∧ s.beginCycling.ctn.fol = s.ctn.fol
    ∧ s.beginCycling.ctn.windowClose = s.ctn.windowClose ∧ s.beginCycling.cause = s.cause
    ∧ s.beginCycling.pending = s.pending := by
  simp [State.beginCycling]

@[simp] theorem State.completePlan_keeps (r : PlanResult) :
    (s.completePlan r).tick = s.tick ∧ (s.completePlan r).hold = s.hold ∧ (s.completePlan r).ctn.config = s.ctn.config
    ∧ (s.completePlan r).ctn.limits = s.ctn.limits ∧ (s.completePlan r).ctn.idleSince = s.ctn.idleSince
    ∧ (s.completePlan r).ctn.fol = s.ctn.fol ∧ (s.completePlan r).ctn.windowClose = s.ctn.windowClose
    ∧ (s.completePlan r).cause = s.cause ∧ (s.completePlan r).pending = s.pending := by
  simp only [State.completePlan]; (repeat' split) <;> simp

@[simp] theorem State.probeB_keeps (r : ProbeResult) :
    (s.probeB r).tick = s.tick ∧ (s.probeB r).hold = s.hold ∧ (s.probeB r).ctn.state = s.ctn.state
    ∧ (s.probeB r).ctn.config = s.ctn.config ∧ (s.probeB r).ctn.limits = s.ctn.limits
    ∧ (s.probeB r).ctn.boundary = s.ctn.boundary ∧ (s.probeB r).ctn.next = s.ctn.next
    ∧ (s.probeB r).ctn.idleSince = s.ctn.idleSince ∧ (s.probeB r).ctn.cycle = s.ctn.cycle ∧ (s.probeB r).ctn.plan = s.ctn.plan
    ∧ (s.probeB r).ctn.breakIx = s.ctn.breakIx ∧ (s.probeB r).ctn.fol = s.ctn.fol ∧ (s.probeB r).ctn.window = s.ctn.window
    ∧ (s.probeB r).ctn.windowClose = s.ctn.windowClose ∧ (s.probeB r).cfe = s.cfe ∧ (s.probeB r).lu = s.lu
    ∧ (s.probeB r).axe = s.axe ∧ (s.probeB r).tru = s.tru ∧ (s.probeB r).tgu = s.tgu ∧ (s.probeB r).drive = s.drive
    ∧ (s.probeB r).reads = s.reads ∧ (s.probeB r).cause = s.cause ∧ (s.probeB r).free = s.free
    ∧ (s.probeB r).pending = s.pending := by
  simp [State.probeB]

@[simp] theorem State.probeReturned_keeps (leg p : FibrePort) (d t : Word) (w : Bool) (b : ProbeBody) :
    (s.probeReturned leg p d t w b).tick = s.tick ∧ (s.probeReturned leg p d t w b).hold = s.hold
    ∧ (s.probeReturned leg p d t w b).ctn.config = s.ctn.config ∧ (s.probeReturned leg p d t w b).ctn.limits = s.ctn.limits
    ∧ (s.probeReturned leg p d t w b).ctn.idleSince = s.ctn.idleSince ∧ (s.probeReturned leg p d t w b).ctn.fol = s.ctn.fol
    ∧ (s.probeReturned leg p d t w b).ctn.windowClose = s.ctn.windowClose ∧ (s.probeReturned leg p d t w b).cause = s.cause
    ∧ (s.probeReturned leg p d t w b).pending = s.pending := by
  simp only [State.probeReturned]; (repeat' split) <;> simp

@[simp] theorem State.probeLost_keeps (leg : FibrePort) :
    (s.probeLost leg).tick = s.tick ∧ (s.probeLost leg).hold = s.hold ∧ (s.probeLost leg).ctn.config = s.ctn.config
    ∧ (s.probeLost leg).ctn.limits = s.ctn.limits ∧ (s.probeLost leg).ctn.idleSince = s.ctn.idleSince
    ∧ (s.probeLost leg).ctn.fol = s.ctn.fol ∧ (s.probeLost leg).ctn.windowClose = s.ctn.windowClose
    ∧ (s.probeLost leg).cause = s.cause ∧ (s.probeLost leg).pending = s.pending := by
  simp only [State.probeLost]; (repeat' split) <;> simp

@[simp] theorem State.ringRestart_keeps :
    s.ringRestart.tick = s.tick ∧ s.ringRestart.hold = s.hold ∧ s.ringRestart.fpf = s.fpf ∧ s.ringRestart.ctn = s.ctn
    ∧ s.ringRestart.cfe = s.cfe ∧ s.ringRestart.lu = s.lu ∧ s.ringRestart.axe = s.axe ∧ s.ringRestart.tgu = s.tgu
    ∧ s.ringRestart.drive = s.drive ∧ s.ringRestart.reads = s.reads ∧ s.ringRestart.cause = s.cause
    ∧ s.ringRestart.free = s.free ∧ s.ringRestart.pending = s.pending := by
  simp [State.ringRestart]

@[simp] theorem State.setOpen_keeps (p : FibrePort) (v : Bool) :
    (s.setOpen p v).tick = s.tick ∧ (s.setOpen p v).hold = s.hold ∧ (s.setOpen p v).fpf = s.fpf
    ∧ (s.setOpen p v).ctn.state = s.ctn.state ∧ (s.setOpen p v).ctn.config = s.ctn.config
    ∧ (s.setOpen p v).ctn.limits = s.ctn.limits ∧ (s.setOpen p v).ctn.boundary = s.ctn.boundary
    ∧ (s.setOpen p v).ctn.next = s.ctn.next ∧ (s.setOpen p v).ctn.idleSince = s.ctn.idleSince
    ∧ (s.setOpen p v).ctn.cycle = s.ctn.cycle ∧ (s.setOpen p v).ctn.plan = s.ctn.plan
    ∧ (s.setOpen p v).ctn.breakIx = s.ctn.breakIx ∧ (s.setOpen p v).ctn.fol = s.ctn.fol
    ∧ (s.setOpen p v).ctn.window = s.ctn.window ∧ (s.setOpen p v).ctn.windowClose = s.ctn.windowClose
    ∧ (s.setOpen p v).cfe = s.cfe ∧ (s.setOpen p v).lu = s.lu ∧ (s.setOpen p v).axe = s.axe ∧ (s.setOpen p v).tru = s.tru
    ∧ (s.setOpen p v).tgu = s.tgu ∧ (s.setOpen p v).pse = s.pse ∧ (s.setOpen p v).teu = s.teu
    ∧ (s.setOpen p v).panel = s.panel ∧ (s.setOpen p v).reads = s.reads ∧ (s.setOpen p v).cause = s.cause
    ∧ (s.setOpen p v).free = s.free ∧ (s.setOpen p v).pending = s.pending := by
  simp only [State.setOpen]; (repeat' split) <;> simp

@[simp] theorem State.returnExpires_keeps (p : FibrePort) :
    (s.returnExpires p).tick = s.tick ∧ (s.returnExpires p).hold = s.hold ∧ (s.returnExpires p).fpf = s.fpf
    ∧ (s.returnExpires p).ctn.state = s.ctn.state ∧ (s.returnExpires p).ctn.config = s.ctn.config
    ∧ (s.returnExpires p).ctn.limits = s.ctn.limits ∧ (s.returnExpires p).ctn.boundary = s.ctn.boundary
    ∧ (s.returnExpires p).ctn.next = s.ctn.next ∧ (s.returnExpires p).ctn.idleSince = s.ctn.idleSince
    ∧ (s.returnExpires p).ctn.cycle = s.ctn.cycle ∧ (s.returnExpires p).ctn.plan = s.ctn.plan
    ∧ (s.returnExpires p).ctn.breakIx = s.ctn.breakIx ∧ (s.returnExpires p).ctn.fol = s.ctn.fol
    ∧ (s.returnExpires p).ctn.window = s.ctn.window ∧ (s.returnExpires p).ctn.windowClose = s.ctn.windowClose
    ∧ (s.returnExpires p).cfe = s.cfe ∧ (s.returnExpires p).lu = s.lu ∧ (s.returnExpires p).axe = s.axe
    ∧ (s.returnExpires p).tru = s.tru ∧ (s.returnExpires p).tgu = s.tgu ∧ (s.returnExpires p).pse = s.pse
    ∧ (s.returnExpires p).teu = s.teu ∧ (s.returnExpires p).panel = s.panel ∧ (s.returnExpires p).reads = s.reads
    ∧ (s.returnExpires p).cause = s.cause ∧ (s.returnExpires p).free = s.free ∧ (s.returnExpires p).pending = s.pending := by
  simp [State.returnExpires]

@[simp] theorem State.expireAtBoundary_keeps (p : FibrePort) :
    (s.expireAtBoundary p).tick = s.tick ∧ (s.expireAtBoundary p).hold = s.hold ∧ (s.expireAtBoundary p).fpf = s.fpf
    ∧ (s.expireAtBoundary p).ctn.state = s.ctn.state ∧ (s.expireAtBoundary p).ctn.config = s.ctn.config
    ∧ (s.expireAtBoundary p).ctn.limits = s.ctn.limits ∧ (s.expireAtBoundary p).ctn.boundary = s.ctn.boundary
    ∧ (s.expireAtBoundary p).ctn.next = s.ctn.next ∧ (s.expireAtBoundary p).ctn.idleSince = s.ctn.idleSince
    ∧ (s.expireAtBoundary p).ctn.cycle = s.ctn.cycle ∧ (s.expireAtBoundary p).ctn.plan = s.ctn.plan
    ∧ (s.expireAtBoundary p).ctn.breakIx = s.ctn.breakIx ∧ (s.expireAtBoundary p).ctn.fol = s.ctn.fol
    ∧ (s.expireAtBoundary p).ctn.window = s.ctn.window ∧ (s.expireAtBoundary p).ctn.windowClose = s.ctn.windowClose
    ∧ (s.expireAtBoundary p).cfe = s.cfe ∧ (s.expireAtBoundary p).lu = s.lu ∧ (s.expireAtBoundary p).axe = s.axe
    ∧ (s.expireAtBoundary p).tru = s.tru ∧ (s.expireAtBoundary p).tgu = s.tgu ∧ (s.expireAtBoundary p).pse = s.pse
    ∧ (s.expireAtBoundary p).teu = s.teu ∧ (s.expireAtBoundary p).panel = s.panel ∧ (s.expireAtBoundary p).reads = s.reads
    ∧ (s.expireAtBoundary p).cause = s.cause ∧ (s.expireAtBoundary p).free = s.free
    ∧ (s.expireAtBoundary p).pending = s.pending := by
  simp only [State.expireAtBoundary]; (repeat' split) <;> simp

@[simp] theorem State.mergeBoundary_keeps (k : Word) :
    (s.mergeBoundary k).tick = s.tick ∧ (s.mergeBoundary k).hold = s.hold ∧ (s.mergeBoundary k).ctn.state = s.ctn.state
    ∧ (s.mergeBoundary k).ctn.config = s.ctn.config ∧ (s.mergeBoundary k).ctn.limits = s.ctn.limits
    ∧ (s.mergeBoundary k).ctn.boundary = s.ctn.boundary ∧ (s.mergeBoundary k).ctn.next = s.ctn.next
    ∧ (s.mergeBoundary k).ctn.idleSince = s.ctn.idleSince ∧ (s.mergeBoundary k).ctn.cycle = s.ctn.cycle
    ∧ (s.mergeBoundary k).ctn.plan = s.ctn.plan ∧ (s.mergeBoundary k).ctn.fol = s.ctn.fol
    ∧ (s.mergeBoundary k).ctn.window = s.ctn.window ∧ (s.mergeBoundary k).ctn.windowClose = s.ctn.windowClose
    ∧ (s.mergeBoundary k).lu = s.lu ∧ (s.mergeBoundary k).pse = s.pse ∧ (s.mergeBoundary k).reads = s.reads
    ∧ (s.mergeBoundary k).cause = s.cause ∧ (s.mergeBoundary k).free = s.free ∧ (s.mergeBoundary k).pending = s.pending := by
  simp [State.mergeBoundary]

@[simp] theorem State.restartProbing_keeps :
    s.restartProbing.tick = s.tick ∧ s.restartProbing.hold = s.hold ∧ s.restartProbing.ctn.config = s.ctn.config
    ∧ s.restartProbing.ctn.limits = s.ctn.limits ∧ s.restartProbing.ctn.next = s.ctn.next
    ∧ s.restartProbing.ctn.cycle = s.ctn.cycle ∧ s.restartProbing.ctn.plan = s.ctn.plan
    ∧ s.restartProbing.ctn.breakIx = s.ctn.breakIx ∧ s.restartProbing.ctn.fol = s.ctn.fol
    ∧ s.restartProbing.ctn.windowClose = s.ctn.windowClose ∧ s.restartProbing.cfe = s.cfe ∧ s.restartProbing.reads = s.reads
    ∧ s.restartProbing.cause = s.cause ∧ s.restartProbing.pending = s.pending := by
  simp [State.restartProbing, Ctn.stopBoundary]

@[simp] theorem State.holdTable_keeps (g : Option GrantTable) :
    (s.holdTable g).tick = s.tick ∧ (s.holdTable g).hold = s.hold ∧ (s.holdTable g).fpf = s.fpf
    ∧ (s.holdTable g).ctn = s.ctn ∧ (s.holdTable g).cfe = s.cfe ∧ (s.holdTable g).lu = s.lu ∧ (s.holdTable g).axe = s.axe
    ∧ (s.holdTable g).tru = s.tru ∧ (s.holdTable g).tgu = s.tgu ∧ (s.holdTable g).teu = s.teu
    ∧ (s.holdTable g).drive = s.drive ∧ (s.holdTable g).panel = s.panel ∧ (s.holdTable g).reads = s.reads
    ∧ (s.holdTable g).cause = s.cause ∧ (s.holdTable g).free = s.free ∧ (s.holdTable g).pending = s.pending := by
  simp [State.holdTable]

@[simp] theorem State.mergedAtBoundary_keeps :
    s.mergedAtBoundary.tick = s.tick ∧ s.mergedAtBoundary.hold = s.hold ∧ s.mergedAtBoundary.ctn.state = s.ctn.state
    ∧ s.mergedAtBoundary.ctn.config = s.ctn.config ∧ s.mergedAtBoundary.ctn.limits = s.ctn.limits
    ∧ s.mergedAtBoundary.ctn.idleSince = s.ctn.idleSince ∧ s.mergedAtBoundary.ctn.plan = s.ctn.plan
    ∧ s.mergedAtBoundary.ctn.fol = s.ctn.fol ∧ s.mergedAtBoundary.ctn.windowClose = s.ctn.windowClose
    ∧ s.mergedAtBoundary.lu = s.lu ∧ s.mergedAtBoundary.reads = s.reads ∧ s.mergedAtBoundary.cause = s.cause
    ∧ s.mergedAtBoundary.pending = s.pending := by
  simp [State.mergedAtBoundary]

@[simp] theorem State.lineBoundary_keeps :
    s.lineBoundary.tick = s.tick ∧ s.lineBoundary.hold = s.hold ∧ s.lineBoundary.ctn.config = s.ctn.config
    ∧ s.lineBoundary.ctn.limits = s.ctn.limits ∧ s.lineBoundary.ctn.plan = s.ctn.plan ∧ s.lineBoundary.ctn.fol = s.ctn.fol
    ∧ s.lineBoundary.ctn.windowClose = s.ctn.windowClose ∧ s.lineBoundary.cause = s.cause
    ∧ s.lineBoundary.pending = s.pending := by
  simp only [State.lineBoundary, State.when]; (repeat' split) <;> simp

@[simp] theorem State.missed_keeps :
    s.missed.tick = s.tick ∧ s.missed.hold = s.hold ∧ s.missed.ctn.config = s.ctn.config ∧ s.missed.ctn.limits = s.ctn.limits
    ∧ s.missed.ctn.boundary = s.ctn.boundary ∧ s.missed.ctn.next = s.ctn.next ∧ s.missed.ctn.idleSince = s.ctn.idleSince
    ∧ s.missed.ctn.cycle = s.ctn.cycle ∧ s.missed.ctn.plan = s.ctn.plan ∧ s.missed.ctn.breakIx = s.ctn.breakIx
    ∧ s.missed.ctn.windowClose = s.ctn.windowClose ∧ s.missed.cfe = s.cfe ∧ s.missed.reads = s.reads
    ∧ s.missed.cause = s.cause ∧ s.missed.pending = s.pending := by
  simp only [State.missed]; (repeat' split) <;> simp

@[simp] theorem State.timingCloseAt_keeps (l : Word) :
    (s.timingCloseAt l).tick = s.tick ∧ (s.timingCloseAt l).hold = s.hold ∧ (s.timingCloseAt l).ctn.config = s.ctn.config
    ∧ (s.timingCloseAt l).ctn.limits = s.ctn.limits ∧ (s.timingCloseAt l).ctn.boundary = s.ctn.boundary
    ∧ (s.timingCloseAt l).ctn.idleSince = s.ctn.idleSince ∧ (s.timingCloseAt l).ctn.cycle = s.ctn.cycle
    ∧ (s.timingCloseAt l).ctn.plan = s.ctn.plan ∧ (s.timingCloseAt l).ctn.breakIx = s.ctn.breakIx
    ∧ (s.timingCloseAt l).ctn.windowClose = s.ctn.windowClose ∧ (s.timingCloseAt l).cfe = s.cfe
    ∧ (s.timingCloseAt l).reads = s.reads ∧ (s.timingCloseAt l).cause = s.cause ∧ (s.timingCloseAt l).pending = s.pending := by
  simp only [State.timingCloseAt, State.when, State.raiseStep]; (repeat' split) <;> simp

@[simp] theorem State.timingClose_keeps :
    s.timingClose.tick = s.tick ∧ s.timingClose.hold = s.hold ∧ s.timingClose.ctn.config = s.ctn.config
    ∧ s.timingClose.ctn.limits = s.ctn.limits ∧ s.timingClose.ctn.boundary = s.ctn.boundary
    ∧ s.timingClose.ctn.idleSince = s.ctn.idleSince ∧ s.timingClose.ctn.cycle = s.ctn.cycle
    ∧ s.timingClose.ctn.plan = s.ctn.plan ∧ s.timingClose.ctn.breakIx = s.ctn.breakIx
    ∧ s.timingClose.ctn.windowClose = s.ctn.windowClose ∧ s.timingClose.cfe = s.cfe ∧ s.timingClose.reads = s.reads
    ∧ s.timingClose.cause = s.cause ∧ s.timingClose.pending = s.pending := by
  simp only [State.timingClose]; (repeat' split) <;> simp

@[simp] theorem State.closeWhenBoth_keeps :
    s.closeWhenBoth.tick = s.tick ∧ s.closeWhenBoth.hold = s.hold ∧ s.closeWhenBoth.ctn.config = s.ctn.config
    ∧ s.closeWhenBoth.ctn.limits = s.ctn.limits ∧ s.closeWhenBoth.ctn.boundary = s.ctn.boundary
    ∧ s.closeWhenBoth.ctn.idleSince = s.ctn.idleSince ∧ s.closeWhenBoth.ctn.cycle = s.ctn.cycle
    ∧ s.closeWhenBoth.ctn.plan = s.ctn.plan ∧ s.closeWhenBoth.ctn.breakIx = s.ctn.breakIx
    ∧ s.closeWhenBoth.ctn.windowClose = s.ctn.windowClose ∧ s.closeWhenBoth.cfe = s.cfe ∧ s.closeWhenBoth.reads = s.reads
    ∧ s.closeWhenBoth.cause = s.cause ∧ s.closeWhenBoth.pending = s.pending := by
  simp only [State.closeWhenBoth, State.when]; (repeat' split) <;> simp

@[simp] theorem State.startLocalCycle_keeps :
    s.startLocalCycle.tick = s.tick ∧ s.startLocalCycle.hold = s.hold ∧ s.startLocalCycle.ctn.state = s.ctn.state
    ∧ s.startLocalCycle.ctn.config = s.ctn.config ∧ s.startLocalCycle.ctn.limits = s.ctn.limits
    ∧ s.startLocalCycle.ctn.idleSince = s.ctn.idleSince ∧ s.startLocalCycle.ctn.plan = s.ctn.plan
    ∧ s.startLocalCycle.ctn.breakIx = s.ctn.breakIx ∧ s.startLocalCycle.ctn.windowClose = s.ctn.windowClose
    ∧ s.startLocalCycle.cfe = s.cfe ∧ s.startLocalCycle.lu = s.lu ∧ s.startLocalCycle.reads = s.reads
    ∧ s.startLocalCycle.cause = s.cause ∧ s.startLocalCycle.pending = s.pending := by
  simp [State.startLocalCycle]

@[simp] theorem State.localBoundary_keeps :
    s.localBoundary.tick = s.tick ∧ s.localBoundary.hold = s.hold ∧ s.localBoundary.ctn.config = s.ctn.config
    ∧ s.localBoundary.ctn.limits = s.ctn.limits ∧ s.localBoundary.ctn.idleSince = s.ctn.idleSince
    ∧ s.localBoundary.ctn.plan = s.ctn.plan ∧ s.localBoundary.ctn.breakIx = s.ctn.breakIx
    ∧ s.localBoundary.ctn.windowClose = s.ctn.windowClose ∧ s.localBoundary.cfe = s.cfe ∧ s.localBoundary.cause = s.cause
    ∧ s.localBoundary.pending = s.pending := by
  simp only [State.localBoundary, State.when]; (repeat' split) <;> simp

@[simp] theorem State.acquire_keeps (k t : Word) (o : Option Nat) :
    (s.acquire k t o).tick = s.tick ∧ (s.acquire k t o).hold = s.hold ∧ (s.acquire k t o).fpf = s.fpf
    ∧ (s.acquire k t o).ctn.state = s.ctn.state ∧ (s.acquire k t o).ctn.config = s.ctn.config
    ∧ (s.acquire k t o).ctn.limits = s.ctn.limits ∧ (s.acquire k t o).ctn.idleSince = s.ctn.idleSince
    ∧ (s.acquire k t o).ctn.plan = s.ctn.plan ∧ (s.acquire k t o).ctn.breakIx = s.ctn.breakIx
    ∧ (s.acquire k t o).ctn.line = s.ctn.line ∧ (s.acquire k t o).ctn.windowClose = s.ctn.windowClose
    ∧ (s.acquire k t o).cfe = s.cfe ∧ (s.acquire k t o).lu = s.lu ∧ (s.acquire k t o).axe = s.axe
    ∧ (s.acquire k t o).tru = s.tru ∧ (s.acquire k t o).tgu = s.tgu ∧ (s.acquire k t o).pse = s.pse
    ∧ (s.acquire k t o).teu = s.teu ∧ (s.acquire k t o).drive = s.drive ∧ (s.acquire k t o).panel = s.panel
    ∧ (s.acquire k t o).reads = s.reads ∧ (s.acquire k t o).cause = s.cause ∧ (s.acquire k t o).free = s.free
    ∧ (s.acquire k t o).pending = s.pending := by
  simp [State.acquire]

@[simp] theorem State.acquisitionCopy_keeps (p : FibrePort) (k t : Word) :
    (s.acquisitionCopy p k t).tick = s.tick ∧ (s.acquisitionCopy p k t).hold = s.hold
    ∧ (s.acquisitionCopy p k t).fpf = s.fpf ∧ (s.acquisitionCopy p k t).ctn.state = s.ctn.state
    ∧ (s.acquisitionCopy p k t).ctn.config = s.ctn.config ∧ (s.acquisitionCopy p k t).ctn.limits = s.ctn.limits
    ∧ (s.acquisitionCopy p k t).ctn.idleSince = s.ctn.idleSince ∧ (s.acquisitionCopy p k t).ctn.plan = s.ctn.plan
    ∧ (s.acquisitionCopy p k t).ctn.breakIx = s.ctn.breakIx ∧ (s.acquisitionCopy p k t).ctn.line = s.ctn.line
    ∧ (s.acquisitionCopy p k t).ctn.windowClose = s.ctn.windowClose ∧ (s.acquisitionCopy p k t).cfe = s.cfe
    ∧ (s.acquisitionCopy p k t).lu = s.lu ∧ (s.acquisitionCopy p k t).axe = s.axe ∧ (s.acquisitionCopy p k t).tru = s.tru
    ∧ (s.acquisitionCopy p k t).tgu = s.tgu ∧ (s.acquisitionCopy p k t).pse = s.pse ∧ (s.acquisitionCopy p k t).teu = s.teu
    ∧ (s.acquisitionCopy p k t).drive = s.drive ∧ (s.acquisitionCopy p k t).panel = s.panel
    ∧ (s.acquisitionCopy p k t).reads = s.reads ∧ (s.acquisitionCopy p k t).cause = s.cause
    ∧ (s.acquisitionCopy p k t).free = s.free ∧ (s.acquisitionCopy p k t).pending = s.pending := by
  simp only [State.acquisitionCopy]; (repeat' split) <;> simp

@[simp] theorem State.acquisitionExpiry_keeps (w : Acquisition) :
    (s.acquisitionExpiry w).tick = s.tick ∧ (s.acquisitionExpiry w).hold = s.hold ∧ (s.acquisitionExpiry w).fpf = s.fpf
    ∧ (s.acquisitionExpiry w).ctn.state = s.ctn.state ∧ (s.acquisitionExpiry w).ctn.config = s.ctn.config
    ∧ (s.acquisitionExpiry w).ctn.limits = s.ctn.limits ∧ (s.acquisitionExpiry w).ctn.idleSince = s.ctn.idleSince
    ∧ (s.acquisitionExpiry w).ctn.plan = s.ctn.plan ∧ (s.acquisitionExpiry w).ctn.breakIx = s.ctn.breakIx
    ∧ (s.acquisitionExpiry w).ctn.line = s.ctn.line ∧ (s.acquisitionExpiry w).ctn.windowClose = s.ctn.windowClose
    ∧ (s.acquisitionExpiry w).cfe = s.cfe ∧ (s.acquisitionExpiry w).lu = s.lu ∧ (s.acquisitionExpiry w).axe = s.axe
    ∧ (s.acquisitionExpiry w).tru = s.tru ∧ (s.acquisitionExpiry w).tgu = s.tgu ∧ (s.acquisitionExpiry w).pse = s.pse
    ∧ (s.acquisitionExpiry w).teu = s.teu ∧ (s.acquisitionExpiry w).drive = s.drive
    ∧ (s.acquisitionExpiry w).panel = s.panel ∧ (s.acquisitionExpiry w).reads = s.reads
    ∧ (s.acquisitionExpiry w).cause = s.cause ∧ (s.acquisitionExpiry w).free = s.free
    ∧ (s.acquisitionExpiry w).pending = s.pending := by
  simp only [State.acquisitionExpiry]; (repeat' split) <;> simp

@[simp] theorem State.takeRestart_keeps (a : Byte) (k : Word) :
    (s.takeRestart a k).tick = s.tick ∧ (s.takeRestart a k).hold = s.hold ∧ (s.takeRestart a k).ctn.config = s.ctn.config
    ∧ (s.takeRestart a k).ctn.limits = s.ctn.limits ∧ (s.takeRestart a k).ctn.next = s.ctn.next
    ∧ (s.takeRestart a k).ctn.cycle = s.ctn.cycle ∧ (s.takeRestart a k).ctn.windowClose = s.ctn.windowClose
    ∧ (s.takeRestart a k).reads = s.reads ∧ (s.takeRestart a k).cause = s.cause ∧ (s.takeRestart a k).pending = s.pending := by
  simp [State.takeRestart, Ctn.stopBoundary]

@[simp] theorem State.takeHeader_keeps (c : CycleBody) :
    (s.takeHeader c).tick = s.tick ∧ (s.takeHeader c).hold = s.hold ∧ (s.takeHeader c).ctn.state = s.ctn.state
    ∧ (s.takeHeader c).ctn.config = s.ctn.config ∧ (s.takeHeader c).ctn.limits = s.ctn.limits
    ∧ (s.takeHeader c).ctn.boundary = s.ctn.boundary ∧ (s.takeHeader c).ctn.next = s.ctn.next
    ∧ (s.takeHeader c).ctn.idleSince = s.ctn.idleSince ∧ (s.takeHeader c).ctn.cycle = s.ctn.cycle
    ∧ (s.takeHeader c).ctn.line = s.ctn.line ∧ (s.takeHeader c).ctn.window = s.ctn.window
    ∧ (s.takeHeader c).ctn.windowClose = s.ctn.windowClose ∧ (s.takeHeader c).lu = s.lu ∧ (s.takeHeader c).axe = s.axe
    ∧ (s.takeHeader c).tgu = s.tgu ∧ (s.takeHeader c).drive = s.drive ∧ (s.takeHeader c).reads = s.reads
    ∧ (s.takeHeader c).cause = s.cause ∧ (s.takeHeader c).pending = s.pending := by
  and_intros <;> (simp [State.takeHeader, State.when] <;> (repeat' split) <;> simp)

@[simp] theorem State.takeFirst_keeps (c : CycleBody) :
    (s.takeFirst c).tick = s.tick ∧ (s.takeFirst c).hold = s.hold ∧ (s.takeFirst c).fpf = s.fpf
    ∧ (s.takeFirst c).ctn.state = s.ctn.state ∧ (s.takeFirst c).ctn.config = s.ctn.config
    ∧ (s.takeFirst c).ctn.limits = s.ctn.limits ∧ (s.takeFirst c).ctn.boundary = s.ctn.boundary
    ∧ (s.takeFirst c).ctn.next = s.ctn.next ∧ (s.takeFirst c).ctn.idleSince = s.ctn.idleSince
    ∧ (s.takeFirst c).ctn.cycle = s.ctn.cycle ∧ (s.takeFirst c).ctn.plan = s.ctn.plan
    ∧ (s.takeFirst c).ctn.breakIx = s.ctn.breakIx ∧ (s.takeFirst c).ctn.line = s.ctn.line
    ∧ (s.takeFirst c).ctn.window = s.ctn.window ∧ (s.takeFirst c).ctn.windowClose = s.ctn.windowClose
    ∧ (s.takeFirst c).cfe = s.cfe ∧ (s.takeFirst c).lu = s.lu ∧ (s.takeFirst c).axe = s.axe ∧ (s.takeFirst c).tru = s.tru
    ∧ (s.takeFirst c).tgu = s.tgu ∧ (s.takeFirst c).teu = s.teu ∧ (s.takeFirst c).drive = s.drive
    ∧ (s.takeFirst c).panel = s.panel ∧ (s.takeFirst c).reads = s.reads ∧ (s.takeFirst c).cause = s.cause
    ∧ (s.takeFirst c).free = s.free ∧ (s.takeFirst c).pending = s.pending := by
  simp only [State.takeFirst]; (repeat' split) <;> simp

@[simp] theorem State.takeTiming_keeps (p : FibrePort) (k t : Word) :
    (s.takeTiming p k t).tick = s.tick ∧ (s.takeTiming p k t).hold = s.hold ∧ (s.takeTiming p k t).ctn.config = s.ctn.config
    ∧ (s.takeTiming p k t).ctn.limits = s.ctn.limits ∧ (s.takeTiming p k t).ctn.idleSince = s.ctn.idleSince
    ∧ (s.takeTiming p k t).ctn.plan = s.ctn.plan ∧ (s.takeTiming p k t).ctn.breakIx = s.ctn.breakIx
    ∧ (s.takeTiming p k t).ctn.windowClose = s.ctn.windowClose ∧ (s.takeTiming p k t).cfe = s.cfe
    ∧ (s.takeTiming p k t).reads = s.reads ∧ (s.takeTiming p k t).cause = s.cause ∧ (s.takeTiming p k t).pending = s.pending := by
  simp only [State.takeTiming, State.raiseJitter]; (repeat' split) <;> simp

@[simp] theorem State.offerAll_keeps (k : Word) (l : List Section) :
    ((l.foldl (fun s x => s.offerSection k x) s)).tick = s.tick
    ∧ ((l.foldl (fun s x => s.offerSection k x) s)).hold = s.hold
    ∧ ((l.foldl (fun s x => s.offerSection k x) s)).fpf = s.fpf ∧ ((l.foldl (fun s x => s.offerSection k x) s)).ctn = s.ctn
    ∧ ((l.foldl (fun s x => s.offerSection k x) s)).lu = s.lu ∧ ((l.foldl (fun s x => s.offerSection k x) s)).axe = s.axe
    ∧ ((l.foldl (fun s x => s.offerSection k x) s)).tgu = s.tgu ∧ ((l.foldl (fun s x => s.offerSection k x) s)).pse = s.pse
    ∧ ((l.foldl (fun s x => s.offerSection k x) s)).drive = s.drive
    ∧ ((l.foldl (fun s x => s.offerSection k x) s)).reads = s.reads
    ∧ ((l.foldl (fun s x => s.offerSection k x) s)).cause = s.cause
    ∧ ((l.foldl (fun s x => s.offerSection k x) s)).free = s.free
    ∧ ((l.foldl (fun s x => s.offerSection k x) s)).pending = s.pending := by
  and_intros <;> exact foldl_keeps _ _ (fun s b => by simp) _ _

@[simp] theorem State.takeData_keeps (p : Option FibrePort) (t : Word) (c : CycleBody) :
    (s.takeData p t c).tick = s.tick ∧ (s.takeData p t c).hold = s.hold ∧ (s.takeData p t c).ctn.config = s.ctn.config
    ∧ (s.takeData p t c).ctn.limits = s.ctn.limits ∧ (s.takeData p t c).ctn.idleSince = s.ctn.idleSince
    ∧ (s.takeData p t c).ctn.windowClose = s.ctn.windowClose ∧ (s.takeData p t c).reads = s.reads
    ∧ (s.takeData p t c).cause = s.cause ∧ (s.takeData p t c).pending = s.pending := by
  simp only [State.takeData, State.when, State.raiseJump]; (repeat' split) <;> simp

@[simp] theorem State.classifyCopy_keeps (p : FibrePort) (t : Word) (f : Frame) (c : CycleBody) :
    (s.classifyCopy p t f c).tick = s.tick ∧ (s.classifyCopy p t f c).hold = s.hold
    ∧ (s.classifyCopy p t f c).ctn.config = s.ctn.config ∧ (s.classifyCopy p t f c).ctn.limits = s.ctn.limits
    ∧ (s.classifyCopy p t f c).ctn.windowClose = s.ctn.windowClose ∧ (s.classifyCopy p t f c).reads = s.reads
    ∧ (s.classifyCopy p t f c).cause = s.cause ∧ (s.classifyCopy p t f c).pending = s.pending := by
  simp only [State.classifyCopy, State.raiseJitter]; (repeat' split) <;> simp

@[simp] theorem State.goDown_keeps (p : FibrePort) (l : LinkState) :
    (s.goDown p l).tick = s.tick ∧ (s.goDown p l).hold = s.hold ∧ (s.goDown p l).ctn.state = s.ctn.state
    ∧ (s.goDown p l).ctn.config = s.ctn.config ∧ (s.goDown p l).ctn.limits = s.ctn.limits
    ∧ (s.goDown p l).ctn.boundary = s.ctn.boundary ∧ (s.goDown p l).ctn.next = s.ctn.next
    ∧ (s.goDown p l).ctn.idleSince = s.ctn.idleSince ∧ (s.goDown p l).ctn.cycle = s.ctn.cycle
    ∧ (s.goDown p l).ctn.plan = s.ctn.plan ∧ (s.goDown p l).ctn.breakIx = s.ctn.breakIx ∧ (s.goDown p l).ctn.fol = s.ctn.fol
    ∧ (s.goDown p l).ctn.window = s.ctn.window ∧ (s.goDown p l).ctn.windowClose = s.ctn.windowClose
    ∧ (s.goDown p l).cfe = s.cfe ∧ (s.goDown p l).lu = s.lu ∧ (s.goDown p l).axe = s.axe ∧ (s.goDown p l).tru = s.tru
    ∧ (s.goDown p l).tgu = s.tgu ∧ (s.goDown p l).reads = s.reads ∧ (s.goDown p l).cause = s.cause
    ∧ (s.goDown p l).free = s.free ∧ (s.goDown p l).pending = s.pending := by
  simp [State.goDown]

@[simp] theorem State.countError_keeps (p : FibrePort) :
    (s.countError p).tick = s.tick ∧ (s.countError p).hold = s.hold ∧ (s.countError p).ctn = s.ctn
    ∧ (s.countError p).cfe = s.cfe ∧ (s.countError p).lu = s.lu ∧ (s.countError p).axe = s.axe
    ∧ (s.countError p).tru = s.tru ∧ (s.countError p).tgu = s.tgu ∧ (s.countError p).pse = s.pse
    ∧ (s.countError p).teu = s.teu ∧ (s.countError p).drive = s.drive ∧ (s.countError p).panel = s.panel
    ∧ (s.countError p).reads = s.reads ∧ (s.countError p).cause = s.cause ∧ (s.countError p).free = s.free
    ∧ (s.countError p).pending = s.pending := by
  simp [State.countError]

@[simp] theorem State.loseLock_keeps (p : FibrePort) :
    (s.loseLock p).tick = s.tick ∧ (s.loseLock p).hold = s.hold ∧ (s.loseLock p).ctn.state = s.ctn.state
    ∧ (s.loseLock p).ctn.config = s.ctn.config ∧ (s.loseLock p).ctn.limits = s.ctn.limits
    ∧ (s.loseLock p).ctn.boundary = s.ctn.boundary ∧ (s.loseLock p).ctn.next = s.ctn.next
    ∧ (s.loseLock p).ctn.idleSince = s.ctn.idleSince ∧ (s.loseLock p).ctn.cycle = s.ctn.cycle
    ∧ (s.loseLock p).ctn.plan = s.ctn.plan ∧ (s.loseLock p).ctn.breakIx = s.ctn.breakIx ∧ (s.loseLock p).ctn.fol = s.ctn.fol
    ∧ (s.loseLock p).ctn.window = s.ctn.window ∧ (s.loseLock p).ctn.windowClose = s.ctn.windowClose
    ∧ (s.loseLock p).cfe = s.cfe ∧ (s.loseLock p).lu = s.lu ∧ (s.loseLock p).axe = s.axe ∧ (s.loseLock p).tru = s.tru
    ∧ (s.loseLock p).tgu = s.tgu ∧ (s.loseLock p).reads = s.reads ∧ (s.loseLock p).cause = s.cause
    ∧ (s.loseLock p).free = s.free ∧ (s.loseLock p).pending = s.pending := by
  simp [State.loseLock]

@[simp] theorem State.receive_keeps (p : FibrePort) (r : Reception) :
    (s.receive p r).tick = s.tick ∧ (s.receive p r).hold = s.hold ∧ (s.receive p r).ctn = s.ctn
    ∧ (s.receive p r).cfe = s.cfe ∧ (s.receive p r).lu = s.lu ∧ (s.receive p r).axe = s.axe ∧ (s.receive p r).tru = s.tru
    ∧ (s.receive p r).tgu = s.tgu ∧ (s.receive p r).pse = s.pse ∧ (s.receive p r).teu = s.teu
    ∧ (s.receive p r).drive = s.drive ∧ (s.receive p r).panel = s.panel ∧ (s.receive p r).reads = s.reads
    ∧ (s.receive p r).cause = s.cause ∧ (s.receive p r).free = s.free ∧ (s.receive p r).pending = s.pending := by
  simp [State.receive]

@[simp] theorem State.header_keeps (p : FibrePort) (t : Word) (f : Frame) :
    (s.header p t f).tick = s.tick ∧ (s.header p t f).hold = s.hold ∧ (s.header p t f).ctn.state = s.ctn.state
    ∧ (s.header p t f).ctn.config = s.ctn.config ∧ (s.header p t f).ctn.limits = s.ctn.limits
    ∧ (s.header p t f).ctn.boundary = s.ctn.boundary ∧ (s.header p t f).ctn.next = s.ctn.next
    ∧ (s.header p t f).ctn.idleSince = s.ctn.idleSince ∧ (s.header p t f).ctn.cycle = s.ctn.cycle
    ∧ (s.header p t f).ctn.plan = s.ctn.plan ∧ (s.header p t f).ctn.breakIx = s.ctn.breakIx
    ∧ (s.header p t f).ctn.fol = s.ctn.fol ∧ (s.header p t f).ctn.window = s.ctn.window
    ∧ (s.header p t f).ctn.windowClose = s.ctn.windowClose ∧ (s.header p t f).cfe = s.cfe ∧ (s.header p t f).lu = s.lu
    ∧ (s.header p t f).axe = s.axe ∧ (s.header p t f).tru = s.tru ∧ (s.header p t f).tgu = s.tgu
    ∧ (s.header p t f).drive = s.drive ∧ (s.header p t f).reads = s.reads ∧ (s.header p t f).cause = s.cause
    ∧ (s.header p t f).free = s.free ∧ (s.header p t f).pending = s.pending := by
  simp only [State.header]; (repeat' split) <;> simp

@[simp] theorem State.closeGood_keeps (p : FibrePort) (t : Word) (f : Frame) :
    (s.closeGood p t f).hold = s.hold ∧ (s.closeGood p t f).ctn = s.ctn ∧ (s.closeGood p t f).cfe = s.cfe
    ∧ (s.closeGood p t f).lu = s.lu ∧ (s.closeGood p t f).axe = s.axe ∧ (s.closeGood p t f).tru = s.tru
    ∧ (s.closeGood p t f).tgu = s.tgu ∧ (s.closeGood p t f).pse = s.pse ∧ (s.closeGood p t f).teu = s.teu
    ∧ (s.closeGood p t f).drive = s.drive ∧ (s.closeGood p t f).panel = s.panel ∧ (s.closeGood p t f).reads = s.reads
    ∧ (s.closeGood p t f).cause = s.cause ∧ (s.closeGood p t f).free = s.free ∧ (s.closeGood p t f).pending = s.pending := by
  simp [State.closeGood]

@[simp] theorem State.undeliveredFragment_keeps (b : Byte) (id : Half) :
    (s.undeliveredFragment b id).tick = s.tick ∧ (s.undeliveredFragment b id).hold = s.hold
    ∧ (s.undeliveredFragment b id).ctn = s.ctn ∧ (s.undeliveredFragment b id).cfe = s.cfe
    ∧ (s.undeliveredFragment b id).lu = s.lu ∧ (s.undeliveredFragment b id).axe = s.axe
    ∧ (s.undeliveredFragment b id).tru = s.tru ∧ (s.undeliveredFragment b id).tgu = s.tgu
    ∧ (s.undeliveredFragment b id).drive = s.drive ∧ (s.undeliveredFragment b id).reads = s.reads
    ∧ (s.undeliveredFragment b id).cause = s.cause ∧ (s.undeliveredFragment b id).free = s.free
    ∧ (s.undeliveredFragment b id).pending = s.pending := by
  simp only [State.undeliveredFragment]; (repeat' split) <;> simp

@[simp] theorem State.reachClose_keeps (p : FibrePort) (n : Nat) :
    (s.reachClose p n).hold = s.hold ∧ (s.reachClose p n).fpf = s.fpf ∧ (s.reachClose p n).ctn = s.ctn
    ∧ (s.reachClose p n).cfe = s.cfe ∧ (s.reachClose p n).lu = s.lu ∧ (s.reachClose p n).axe = s.axe
    ∧ (s.reachClose p n).tru = s.tru ∧ (s.reachClose p n).tgu = s.tgu ∧ (s.reachClose p n).pse = s.pse
    ∧ (s.reachClose p n).teu = s.teu ∧ (s.reachClose p n).drive = s.drive ∧ (s.reachClose p n).panel = s.panel
    ∧ (s.reachClose p n).reads = s.reads ∧ (s.reachClose p n).cause = s.cause ∧ (s.reachClose p n).free = s.free
    ∧ (s.reachClose p n).pending = s.pending := by
  simp only [State.reachClose]; (repeat' split) <;> simp

@[simp] theorem State.closeBad_keeps (p : FibrePort) (bs : List Byte) :
    (s.closeBad p bs).hold = s.hold ∧ (s.closeBad p bs).ctn.state = s.ctn.state
    ∧ (s.closeBad p bs).ctn.config = s.ctn.config ∧ (s.closeBad p bs).ctn.limits = s.ctn.limits
    ∧ (s.closeBad p bs).ctn.boundary = s.ctn.boundary ∧ (s.closeBad p bs).ctn.next = s.ctn.next
    ∧ (s.closeBad p bs).ctn.idleSince = s.ctn.idleSince ∧ (s.closeBad p bs).ctn.cycle = s.ctn.cycle
    ∧ (s.closeBad p bs).ctn.plan = s.ctn.plan ∧ (s.closeBad p bs).ctn.breakIx = s.ctn.breakIx
    ∧ (s.closeBad p bs).ctn.fol = s.ctn.fol ∧ (s.closeBad p bs).ctn.window = s.ctn.window
    ∧ (s.closeBad p bs).ctn.windowClose = s.ctn.windowClose ∧ (s.closeBad p bs).cfe = s.cfe ∧ (s.closeBad p bs).lu = s.lu
    ∧ (s.closeBad p bs).axe = s.axe ∧ (s.closeBad p bs).tru = s.tru ∧ (s.closeBad p bs).tgu = s.tgu
    ∧ (s.closeBad p bs).drive = s.drive ∧ (s.closeBad p bs).reads = s.reads ∧ (s.closeBad p bs).cause = s.cause
    ∧ (s.closeBad p bs).free = s.free ∧ (s.closeBad p bs).pending = s.pending := by
  simp only [State.closeBad]; (repeat' split) <;> simp

/-- A frame that a Soft Reset found in reception hands nothing over at its good close (R22): the node only closes it. -/
theorem State.delivered_discards (p : FibrePort) (t : Word) (f : Frame) (act : State → State) (h : s.discards p = true) :
    s.delivered p t f act = if s.live && (s.fibre p).link == .locked then s.closeGood p t f else s := by
  simp [State.delivered, h, State.when]

/-- After a Soft Reset of a port the frame in reception is marked, with nothing staged (R22). -/
@[simp] theorem Fibre.softReset_rx (f : Fibre) (now : Word) :
    (f.softReset now).rx = f.rx.map fun r => { r with write := none, conflict := false, discarded := true } := rfl

@[simp] theorem State.followerCopy_keeps (p : FibrePort) (rx : Option Reception) (t : Word) (f : Frame) (c : CycleBody) :
    (s.followerCopy p rx t f c).tick = s.tick ∧ (s.followerCopy p rx t f c).hold = s.hold
    ∧ (s.followerCopy p rx t f c).ctn.config = s.ctn.config ∧ (s.followerCopy p rx t f c).ctn.limits = s.ctn.limits
    ∧ (s.followerCopy p rx t f c).ctn.windowClose = s.ctn.windowClose ∧ (s.followerCopy p rx t f c).reads = s.reads
    ∧ (s.followerCopy p rx t f c).cause = s.cause ∧ (s.followerCopy p rx t f c).pending = s.pending := by
  simp only [State.followerCopy]; (repeat' split) <;> simp

@[simp] theorem State.unwrappedReturn_keeps (p : FibrePort) (t : Word) (c : KeptCopy) :
    (s.unwrappedReturn p t c).tick = s.tick ∧ (s.unwrappedReturn p t c).hold = s.hold ∧ (s.unwrappedReturn p t c).fpf = s.fpf
    ∧ (s.unwrappedReturn p t c).ctn.state = s.ctn.state ∧ (s.unwrappedReturn p t c).ctn.config = s.ctn.config
    ∧ (s.unwrappedReturn p t c).ctn.limits = s.ctn.limits ∧ (s.unwrappedReturn p t c).ctn.boundary = s.ctn.boundary
    ∧ (s.unwrappedReturn p t c).ctn.next = s.ctn.next ∧ (s.unwrappedReturn p t c).ctn.idleSince = s.ctn.idleSince
    ∧ (s.unwrappedReturn p t c).ctn.cycle = s.ctn.cycle ∧ (s.unwrappedReturn p t c).ctn.plan = s.ctn.plan
    ∧ (s.unwrappedReturn p t c).ctn.breakIx = s.ctn.breakIx ∧ (s.unwrappedReturn p t c).ctn.fol = s.ctn.fol
    ∧ (s.unwrappedReturn p t c).ctn.window = s.ctn.window ∧ (s.unwrappedReturn p t c).ctn.windowClose = s.ctn.windowClose
    ∧ (s.unwrappedReturn p t c).cfe = s.cfe ∧ (s.unwrappedReturn p t c).lu = s.lu ∧ (s.unwrappedReturn p t c).axe = s.axe
    ∧ (s.unwrappedReturn p t c).tru = s.tru ∧ (s.unwrappedReturn p t c).tgu = s.tgu ∧ (s.unwrappedReturn p t c).pse = s.pse
    ∧ (s.unwrappedReturn p t c).teu = s.teu ∧ (s.unwrappedReturn p t c).panel = s.panel
    ∧ (s.unwrappedReturn p t c).reads = s.reads ∧ (s.unwrappedReturn p t c).cause = s.cause
    ∧ (s.unwrappedReturn p t c).free = s.free ∧ (s.unwrappedReturn p t c).pending = s.pending := by
  simp only [State.unwrappedReturn, State.when]; (repeat' split) <;> simp

@[simp] theorem State.lineCopy_keeps (p : FibrePort) (t : Word) (f : Frame) (c : CycleBody) :
    (s.lineCopy p t f c).tick = s.tick ∧ (s.lineCopy p t f c).hold = s.hold ∧ (s.lineCopy p t f c).fpf = s.fpf
    ∧ (s.lineCopy p t f c).ctn.state = s.ctn.state ∧ (s.lineCopy p t f c).ctn.config = s.ctn.config
    ∧ (s.lineCopy p t f c).ctn.limits = s.ctn.limits ∧ (s.lineCopy p t f c).ctn.boundary = s.ctn.boundary
    ∧ (s.lineCopy p t f c).ctn.next = s.ctn.next ∧ (s.lineCopy p t f c).ctn.idleSince = s.ctn.idleSince
    ∧ (s.lineCopy p t f c).ctn.cycle = s.ctn.cycle ∧ (s.lineCopy p t f c).ctn.plan = s.ctn.plan
    ∧ (s.lineCopy p t f c).ctn.breakIx = s.ctn.breakIx ∧ (s.lineCopy p t f c).ctn.fol = s.ctn.fol
    ∧ (s.lineCopy p t f c).ctn.window = s.ctn.window ∧ (s.lineCopy p t f c).ctn.windowClose = s.ctn.windowClose
    ∧ (s.lineCopy p t f c).cfe = s.cfe ∧ (s.lineCopy p t f c).lu = s.lu ∧ (s.lineCopy p t f c).axe = s.axe
    ∧ (s.lineCopy p t f c).tru = s.tru ∧ (s.lineCopy p t f c).tgu = s.tgu ∧ (s.lineCopy p t f c).pse = s.pse
    ∧ (s.lineCopy p t f c).teu = s.teu ∧ (s.lineCopy p t f c).panel = s.panel ∧ (s.lineCopy p t f c).reads = s.reads
    ∧ (s.lineCopy p t f c).cause = s.cause ∧ (s.lineCopy p t f c).free = s.free ∧ (s.lineCopy p t f c).pending = s.pending := by
  simp only [State.lineCopy, State.when]; (repeat' split) <;> simp

@[simp] theorem State.forwardProbe_keeps (p : FibrePort) (f g : Frame) :
    (s.forwardProbe p f g).tick = s.tick ∧ (s.forwardProbe p f g).hold = s.hold
    ∧ (s.forwardProbe p f g).ctn.state = s.ctn.state ∧ (s.forwardProbe p f g).ctn.config = s.ctn.config
    ∧ (s.forwardProbe p f g).ctn.limits = s.ctn.limits ∧ (s.forwardProbe p f g).ctn.boundary = s.ctn.boundary
    ∧ (s.forwardProbe p f g).ctn.next = s.ctn.next ∧ (s.forwardProbe p f g).ctn.idleSince = s.ctn.idleSince
    ∧ (s.forwardProbe p f g).ctn.cycle = s.ctn.cycle ∧ (s.forwardProbe p f g).ctn.plan = s.ctn.plan
    ∧ (s.forwardProbe p f g).ctn.breakIx = s.ctn.breakIx ∧ (s.forwardProbe p f g).ctn.fol = s.ctn.fol
    ∧ (s.forwardProbe p f g).ctn.window = s.ctn.window ∧ (s.forwardProbe p f g).ctn.windowClose = s.ctn.windowClose
    ∧ (s.forwardProbe p f g).cfe = s.cfe ∧ (s.forwardProbe p f g).lu = s.lu ∧ (s.forwardProbe p f g).axe = s.axe
    ∧ (s.forwardProbe p f g).tru = s.tru ∧ (s.forwardProbe p f g).tgu = s.tgu ∧ (s.forwardProbe p f g).drive = s.drive
    ∧ (s.forwardProbe p f g).reads = s.reads ∧ (s.forwardProbe p f g).cause = s.cause ∧ (s.forwardProbe p f g).free = s.free
    ∧ (s.forwardProbe p f g).pending = s.pending := by
  simp only [State.forwardProbe]; (repeat' split) <;> simp

@[simp] theorem State.passProbe_keeps (p : FibrePort) (f : Frame) :
    (s.passProbe p f).tick = s.tick ∧ (s.passProbe p f).hold = s.hold
    ∧ (s.passProbe p f).ctn.state = s.ctn.state ∧ (s.passProbe p f).ctn.config = s.ctn.config
    ∧ (s.passProbe p f).ctn.limits = s.ctn.limits ∧ (s.passProbe p f).ctn.boundary = s.ctn.boundary
    ∧ (s.passProbe p f).ctn.next = s.ctn.next ∧ (s.passProbe p f).ctn.idleSince = s.ctn.idleSince
    ∧ (s.passProbe p f).ctn.cycle = s.ctn.cycle ∧ (s.passProbe p f).ctn.plan = s.ctn.plan
    ∧ (s.passProbe p f).ctn.breakIx = s.ctn.breakIx ∧ (s.passProbe p f).ctn.fol = s.ctn.fol
    ∧ (s.passProbe p f).ctn.window = s.ctn.window ∧ (s.passProbe p f).ctn.windowClose = s.ctn.windowClose
    ∧ (s.passProbe p f).cfe = s.cfe ∧ (s.passProbe p f).lu = s.lu ∧ (s.passProbe p f).axe = s.axe
    ∧ (s.passProbe p f).tru = s.tru ∧ (s.passProbe p f).tgu = s.tgu ∧ (s.passProbe p f).drive = s.drive
    ∧ (s.passProbe p f).reads = s.reads ∧ (s.passProbe p f).cause = s.cause ∧ (s.passProbe p f).free = s.free
    ∧ (s.passProbe p f).pending = s.pending := by
  simp only [State.passProbe]; split <;> simp

@[simp] theorem State.probeHere_keeps (p : FibrePort) (f : Frame) (b : ProbeBody) :
    (s.probeHere p f b).tick = s.tick ∧ (s.probeHere p f b).hold = s.hold ∧ (s.probeHere p f b).ctn.config = s.ctn.config
    ∧ (s.probeHere p f b).ctn.limits = s.ctn.limits ∧ (s.probeHere p f b).ctn.next = s.ctn.next
    ∧ (s.probeHere p f b).ctn.windowClose = s.ctn.windowClose ∧ (s.probeHere p f b).cfe = s.cfe
    ∧ (s.probeHere p f b).reads = s.reads ∧ (s.probeHere p f b).cause = s.cause ∧ (s.probeHere p f b).pending = s.pending := by
  simp only [State.probeHere]; (repeat' split) <;> simp

@[simp] theorem State.builderClose_keeps (o : OutFrame) :
    (s.builderClose o).tick = s.tick ∧ (s.builderClose o).hold = s.hold ∧ (s.builderClose o).fpf = s.fpf
    ∧ (s.builderClose o).ctn = s.ctn ∧ (s.builderClose o).cfe = s.cfe ∧ (s.builderClose o).lu = s.lu
    ∧ (s.builderClose o).axe = s.axe ∧ (s.builderClose o).tru = s.tru ∧ (s.builderClose o).tgu = s.tgu
    ∧ (s.builderClose o).drive = s.drive ∧ (s.builderClose o).reads = s.reads ∧ (s.builderClose o).cause = s.cause
    ∧ (s.builderClose o).free = s.free ∧ (s.builderClose o).pending = s.pending := by
  simp only [State.builderClose]; (repeat' split) <;> simp

@[simp] theorem State.endTransmission_keeps (p : FibrePort) (x : Transmission) :
    (s.endTransmission p x).hold = s.hold ∧ (s.endTransmission p x).ctn.state = s.ctn.state
    ∧ (s.endTransmission p x).ctn.config = s.ctn.config ∧ (s.endTransmission p x).ctn.limits = s.ctn.limits
    ∧ (s.endTransmission p x).ctn.boundary = s.ctn.boundary ∧ (s.endTransmission p x).ctn.next = s.ctn.next
    ∧ (s.endTransmission p x).ctn.idleSince = s.ctn.idleSince ∧ (s.endTransmission p x).ctn.cycle = s.ctn.cycle
    ∧ (s.endTransmission p x).ctn.plan = s.ctn.plan ∧ (s.endTransmission p x).ctn.breakIx = s.ctn.breakIx
    ∧ (s.endTransmission p x).ctn.fol = s.ctn.fol ∧ (s.endTransmission p x).ctn.window = s.ctn.window
    ∧ (s.endTransmission p x).ctn.windowClose = s.ctn.windowClose ∧ (s.endTransmission p x).cfe = s.cfe
    ∧ (s.endTransmission p x).lu = s.lu ∧ (s.endTransmission p x).axe = s.axe ∧ (s.endTransmission p x).tru = s.tru
    ∧ (s.endTransmission p x).tgu = s.tgu ∧ (s.endTransmission p x).drive = s.drive
    ∧ (s.endTransmission p x).reads = s.reads ∧ (s.endTransmission p x).cause = s.cause
    ∧ (s.endTransmission p x).free = s.free ∧ (s.endTransmission p x).pending = s.pending := by
  simp [State.endTransmission]

@[simp] theorem State.onFilter_keeps (i : Fin 4) (f : InputFilter → InputFilter) :
    (s.onFilter i f).tick = s.tick ∧ (s.onFilter i f).hold = s.hold ∧ (s.onFilter i f).fpf = s.fpf
    ∧ (s.onFilter i f).ctn = s.ctn ∧ (s.onFilter i f).cfe = s.cfe ∧ (s.onFilter i f).lu = s.lu
    ∧ (s.onFilter i f).axe = s.axe ∧ (s.onFilter i f).tgu = s.tgu ∧ (s.onFilter i f).pse = s.pse
    ∧ (s.onFilter i f).teu = s.teu ∧ (s.onFilter i f).drive = s.drive ∧ (s.onFilter i f).panel = s.panel
    ∧ (s.onFilter i f).reads = s.reads ∧ (s.onFilter i f).cause = s.cause ∧ (s.onFilter i f).free = s.free
    ∧ (s.onFilter i f).pending = s.pending := by
  simp [State.onFilter]

@[simp] theorem State.onTr_keeps (p : SerialPort) (f : Transaction → Transaction) :
    (s.onTr p f).tick = s.tick ∧ (s.onTr p f).hold = s.hold ∧ (s.onTr p f).fpf = s.fpf ∧ (s.onTr p f).ctn = s.ctn
    ∧ (s.onTr p f).cfe = s.cfe ∧ (s.onTr p f).lu = s.lu ∧ (s.onTr p f).axe = s.axe ∧ (s.onTr p f).tru = s.tru
    ∧ (s.onTr p f).tgu = s.tgu ∧ (s.onTr p f).pse = s.pse ∧ (s.onTr p f).teu = s.teu ∧ (s.onTr p f).reads = s.reads
    ∧ (s.onTr p f).cause = s.cause ∧ (s.onTr p f).free = s.free ∧ (s.onTr p f).pending = s.pending := by
  simp [State.onTr]

@[simp] theorem State.framing_keeps (p : SerialPort) :
    (s.framing p).tick = s.tick ∧ (s.framing p).hold = s.hold ∧ (s.framing p).fpf = s.fpf ∧ (s.framing p).ctn = s.ctn
    ∧ (s.framing p).cfe = s.cfe ∧ (s.framing p).lu = s.lu ∧ (s.framing p).axe = s.axe ∧ (s.framing p).tru = s.tru
    ∧ (s.framing p).tgu = s.tgu ∧ (s.framing p).pse = s.pse ∧ (s.framing p).teu = s.teu ∧ (s.framing p).reads = s.reads
    ∧ (s.framing p).cause = s.cause ∧ (s.framing p).free = s.free ∧ (s.framing p).pending = s.pending := by
  simp [State.framing]

@[simp] theorem State.endWriting_keeps :
    s.endWriting.tick = s.tick ∧ s.endWriting.hold = s.hold ∧ s.endWriting.fpf = s.fpf ∧ s.endWriting.ctn = s.ctn
    ∧ s.endWriting.cfe = s.cfe ∧ s.endWriting.lu = s.lu ∧ s.endWriting.axe = s.axe ∧ s.endWriting.tru = s.tru
    ∧ s.endWriting.tgu = s.tgu ∧ s.endWriting.teu = s.teu ∧ s.endWriting.drive = s.drive ∧ s.endWriting.panel = s.panel
    ∧ s.endWriting.reads = s.reads ∧ s.endWriting.cause = s.cause ∧ s.endWriting.free = s.free
    ∧ s.endWriting.pending = s.pending := by
  simp only [State.endWriting]; (repeat' split) <;> simp

@[simp] theorem State.voidPost_keeps :
    s.voidPost.tick = s.tick ∧ s.voidPost.hold = s.hold ∧ s.voidPost.ctn = s.ctn ∧ s.voidPost.cfe = s.cfe
    ∧ s.voidPost.lu = s.lu ∧ s.voidPost.axe = s.axe ∧ s.voidPost.tru = s.tru ∧ s.voidPost.tgu = s.tgu
    ∧ s.voidPost.drive = s.drive ∧ s.voidPost.panel = s.panel ∧ s.voidPost.reads = s.reads ∧ s.voidPost.cause = s.cause
    ∧ s.voidPost.free = s.free ∧ s.voidPost.pending = s.pending := by
  simp only [State.voidPost]; (repeat' split) <;> simp

@[simp] theorem State.endPhase_keeps (p : SerialPort) (b : Bool) :
    (s.endPhase p b).tick = s.tick ∧ (s.endPhase p b).hold = s.hold ∧ (s.endPhase p b).ctn = s.ctn
    ∧ (s.endPhase p b).cfe = s.cfe ∧ (s.endPhase p b).lu = s.lu ∧ (s.endPhase p b).axe = s.axe
    ∧ (s.endPhase p b).tru = s.tru ∧ (s.endPhase p b).tgu = s.tgu ∧ (s.endPhase p b).reads = s.reads
    ∧ (s.endPhase p b).cause = s.cause ∧ (s.endPhase p b).free = s.free ∧ (s.endPhase p b).pending = s.pending := by
  simp only [State.endPhase, State.when]; (repeat' split) <;> simp

@[simp] theorem State.respond_keeps (p : SerialPort) (c : Byte) (st : Status) (bs : List Byte) :
    (s.respond p c st bs).tick = s.tick ∧ (s.respond p c st bs).hold = s.hold ∧ (s.respond p c st bs).fpf = s.fpf
    ∧ (s.respond p c st bs).ctn = s.ctn ∧ (s.respond p c st bs).cfe = s.cfe ∧ (s.respond p c st bs).lu = s.lu
    ∧ (s.respond p c st bs).axe = s.axe ∧ (s.respond p c st bs).tru = s.tru ∧ (s.respond p c st bs).tgu = s.tgu
    ∧ (s.respond p c st bs).pse = s.pse ∧ (s.respond p c st bs).teu = s.teu ∧ (s.respond p c st bs).reads = s.reads
    ∧ (s.respond p c st bs).cause = s.cause ∧ (s.respond p c st bs).free = s.free
    ∧ (s.respond p c st bs).pending = s.pending := by
  simp [State.respond]

@[simp] theorem State.stream_keeps (p : SerialPort) (c : Byte) (b : Bool) :
    (s.stream p c b).tick = s.tick ∧ (s.stream p c b).hold = s.hold ∧ (s.stream p c b).fpf = s.fpf
    ∧ (s.stream p c b).ctn = s.ctn ∧ (s.stream p c b).cfe = s.cfe ∧ (s.stream p c b).lu = s.lu
    ∧ (s.stream p c b).axe = s.axe ∧ (s.stream p c b).tru = s.tru ∧ (s.stream p c b).tgu = s.tgu
    ∧ (s.stream p c b).pse = s.pse ∧ (s.stream p c b).teu = s.teu ∧ (s.stream p c b).reads = s.reads
    ∧ (s.stream p c b).cause = s.cause ∧ (s.stream p c b).free = s.free ∧ (s.stream p c b).pending = s.pending := by
  simp [State.stream]

@[simp] theorem State.softReset_keeps (p : SerialPort) :
    (s.softReset p).tick = s.tick ∧ (s.softReset p).hold = s.hold ∧ (s.softReset p).pending = s.pending := by
  simp only [State.softReset, State.when]; (repeat' split) <;> simp

@[simp] theorem State.configure_keeps (c : NodeConfig) :
    (s.configure c).tick = s.tick ∧ (s.configure c).hold = s.hold ∧ (s.configure c).ctn.limits = s.ctn.limits
    ∧ (s.configure c).ctn.next = s.ctn.next ∧ (s.configure c).ctn.windowClose = s.ctn.windowClose
    ∧ (s.configure c).cfe = s.cfe ∧ (s.configure c).lu = s.lu ∧ (s.configure c).reads = s.reads
    ∧ (s.configure c).cause = s.cause ∧ (s.configure c).pending = s.pending := by
  simp only [State.configure, State.when]; (repeat' split) <;> simp

@[simp] theorem State.joinClear_keeps :
    s.joinClear.tick = s.tick ∧ s.joinClear.hold = s.hold ∧ s.joinClear.fpf = s.fpf ∧ s.joinClear.ctn = s.ctn
    ∧ s.joinClear.pse = s.pse ∧ s.joinClear.reads = s.reads ∧ s.joinClear.cause = s.cause ∧ s.joinClear.free = s.free
    ∧ s.joinClear.pending = s.pending := by
  simp [State.joinClear]

@[simp] theorem State.join_keeps :
    s.join.tick = s.tick ∧ s.join.hold = s.hold ∧ s.join.ctn.config = s.ctn.config ∧ s.join.ctn.limits = s.ctn.limits
    ∧ s.join.ctn.boundary = s.ctn.boundary ∧ s.join.ctn.next = s.ctn.next ∧ s.join.ctn.idleSince = s.ctn.idleSince
    ∧ s.join.ctn.windowClose = s.ctn.windowClose ∧ s.join.reads = s.reads ∧ s.join.cause = s.cause
    ∧ s.join.pending = s.pending := by
  simp only [State.join]; (repeat' split) <;> simp

@[simp] theorem State.askRestart_keeps :
    s.askRestart.tick = s.tick ∧ s.askRestart.hold = s.hold ∧ s.askRestart.fpf = s.fpf
    ∧ s.askRestart.ctn.state = s.ctn.state ∧ s.askRestart.ctn.config = s.ctn.config ∧ s.askRestart.ctn.limits = s.ctn.limits
    ∧ s.askRestart.ctn.boundary = s.ctn.boundary ∧ s.askRestart.ctn.next = s.ctn.next
    ∧ s.askRestart.ctn.idleSince = s.ctn.idleSince ∧ s.askRestart.ctn.cycle = s.ctn.cycle
    ∧ s.askRestart.ctn.plan = s.ctn.plan ∧ s.askRestart.ctn.breakIx = s.ctn.breakIx ∧ s.askRestart.ctn.fol = s.ctn.fol
    ∧ s.askRestart.ctn.window = s.ctn.window ∧ s.askRestart.ctn.windowClose = s.ctn.windowClose ∧ s.askRestart.cfe = s.cfe
    ∧ s.askRestart.axe = s.axe ∧ s.askRestart.tgu = s.tgu ∧ s.askRestart.drive = s.drive ∧ s.askRestart.reads = s.reads
    ∧ s.askRestart.cause = s.cause ∧ s.askRestart.free = s.free ∧ s.askRestart.pending = s.pending := by
  simp [State.askRestart]

@[simp] theorem State.putTripEntry_keeps (i : Fin 32) (e : TripEntry) (n : Nat) :
    (s.putTripEntry i e n).tick = s.tick ∧ (s.putTripEntry i e n).hold = s.hold
    ∧ (s.putTripEntry i e n).ctn.state = s.ctn.state ∧ (s.putTripEntry i e n).ctn.config = s.ctn.config
    ∧ (s.putTripEntry i e n).ctn.limits = s.ctn.limits ∧ (s.putTripEntry i e n).ctn.boundary = s.ctn.boundary
    ∧ (s.putTripEntry i e n).ctn.next = s.ctn.next ∧ (s.putTripEntry i e n).ctn.idleSince = s.ctn.idleSince
    ∧ (s.putTripEntry i e n).ctn.cycle = s.ctn.cycle ∧ (s.putTripEntry i e n).ctn.plan = s.ctn.plan
    ∧ (s.putTripEntry i e n).ctn.breakIx = s.ctn.breakIx ∧ (s.putTripEntry i e n).ctn.fol = s.ctn.fol
    ∧ (s.putTripEntry i e n).ctn.window = s.ctn.window ∧ (s.putTripEntry i e n).ctn.windowClose = s.ctn.windowClose
    ∧ (s.putTripEntry i e n).cfe = s.cfe ∧ (s.putTripEntry i e n).lu = s.lu ∧ (s.putTripEntry i e n).reads = s.reads
    ∧ (s.putTripEntry i e n).cause = s.cause ∧ (s.putTripEntry i e n).free = s.free
    ∧ (s.putTripEntry i e n).pending = s.pending := by
  simp only [State.putTripEntry, State.when, State.putFilterTime]; (repeat' split) <;> simp

@[simp] theorem State.clearLatches_keeps (m : Word) :
    (s.clearLatches m).tick = s.tick ∧ (s.clearLatches m).hold = s.hold ∧ (s.clearLatches m).fpf = s.fpf
    ∧ (s.clearLatches m).ctn = s.ctn ∧ (s.clearLatches m).cfe = s.cfe ∧ (s.clearLatches m).lu = s.lu
    ∧ (s.clearLatches m).axe = s.axe ∧ (s.clearLatches m).tgu = s.tgu ∧ (s.clearLatches m).pse = s.pse
    ∧ (s.clearLatches m).teu = s.teu ∧ (s.clearLatches m).drive = s.drive ∧ (s.clearLatches m).panel = s.panel
    ∧ (s.clearLatches m).reads = s.reads ∧ (s.clearLatches m).cause = s.cause ∧ (s.clearLatches m).free = s.free
    ∧ (s.clearLatches m).pending = s.pending := by
  simp [State.clearLatches]

@[simp] theorem State.markStamp_keeps (i : Fin 8) (b : Byte) :
    (s.markStamp i b).tick = s.tick ∧ (s.markStamp i b).hold = s.hold ∧ (s.markStamp i b).fpf = s.fpf
    ∧ (s.markStamp i b).ctn = s.ctn ∧ (s.markStamp i b).cfe = s.cfe ∧ (s.markStamp i b).lu = s.lu
    ∧ (s.markStamp i b).axe = s.axe ∧ (s.markStamp i b).tru = s.tru ∧ (s.markStamp i b).pse = s.pse
    ∧ (s.markStamp i b).teu = s.teu ∧ (s.markStamp i b).drive = s.drive ∧ (s.markStamp i b).panel = s.panel
    ∧ (s.markStamp i b).reads = s.reads ∧ (s.markStamp i b).cause = s.cause ∧ (s.markStamp i b).free = s.free
    ∧ (s.markStamp i b).pending = s.pending := by
  simp [State.markStamp]

@[simp] theorem State.beginPost_keeps (a b : Byte) (i : Half) (c : Byte) (n : Half) :
    (s.beginPost a b i c n).tick = s.tick ∧ (s.beginPost a b i c n).hold = s.hold ∧ (s.beginPost a b i c n).ctn = s.ctn
    ∧ (s.beginPost a b i c n).cfe = s.cfe ∧ (s.beginPost a b i c n).lu = s.lu ∧ (s.beginPost a b i c n).axe = s.axe
    ∧ (s.beginPost a b i c n).tru = s.tru ∧ (s.beginPost a b i c n).tgu = s.tgu ∧ (s.beginPost a b i c n).drive = s.drive
    ∧ (s.beginPost a b i c n).panel = s.panel ∧ (s.beginPost a b i c n).reads = s.reads
    ∧ (s.beginPost a b i c n).cause = s.cause ∧ (s.beginPost a b i c n).free = s.free
    ∧ (s.beginPost a b i c n).pending = s.pending := by
  simp only [State.beginPost]; (repeat' split) <;> simp

@[simp] theorem State.postByte_keeps (x : Posting) (b : Byte) :
    (s.postByte x b).tick = s.tick ∧ (s.postByte x b).hold = s.hold ∧ (s.postByte x b).ctn = s.ctn
    ∧ (s.postByte x b).cfe = s.cfe ∧ (s.postByte x b).lu = s.lu ∧ (s.postByte x b).axe = s.axe
    ∧ (s.postByte x b).tru = s.tru ∧ (s.postByte x b).tgu = s.tgu ∧ (s.postByte x b).drive = s.drive
    ∧ (s.postByte x b).reads = s.reads ∧ (s.postByte x b).cause = s.cause ∧ (s.postByte x b).free = s.free
    ∧ (s.postByte x b).pending = s.pending := by
  simp only [State.postByte]; (repeat' split) <;> simp

@[simp] theorem State.appendByte_keeps (w : StripWriting) (h : Fin 16) (x : Strip) (b : Byte) :
    (s.appendByte w h x b).tick = s.tick ∧ (s.appendByte w h x b).hold = s.hold ∧ (s.appendByte w h x b).fpf = s.fpf
    ∧ (s.appendByte w h x b).ctn = s.ctn ∧ (s.appendByte w h x b).cfe = s.cfe ∧ (s.appendByte w h x b).lu = s.lu
    ∧ (s.appendByte w h x b).axe = s.axe ∧ (s.appendByte w h x b).tru = s.tru ∧ (s.appendByte w h x b).tgu = s.tgu
    ∧ (s.appendByte w h x b).teu = s.teu ∧ (s.appendByte w h x b).drive = s.drive ∧ (s.appendByte w h x b).panel = s.panel
    ∧ (s.appendByte w h x b).reads = s.reads ∧ (s.appendByte w h x b).cause = s.cause ∧ (s.appendByte w h x b).free = s.free
    ∧ (s.appendByte w h x b).pending = s.pending := by
  simp only [State.appendByte]; (repeat' split) <;> simp

end Sys2Proof.Machine
end

