-- ==== Sys2Proof/Laws/PerInstr.lean ====
section
/-! SUPPORT. One fact of every command as syntax: the code of a command on a serial port is one of the catalogue of chapter 11 (R174,
R176), and a command that is no port command has none. -/

namespace Sys2Proof.Laws.KindOf

/-- The command's code, where it has one, is a command of the node. -/
def Statement (i : Instr) : Prop :=
  ∀ p code, Sys2Proof.Machine.portCode i = some (p, code) → Sys2Proof.Machine.knownCommand code = true

theorem lightAppears (p : FibrePort) : Statement (.lightAppears p) := by rintro q c ⟨⟩
theorem lightLost (p : FibrePort) : Statement (.lightLost p) := by rintro q c ⟨⟩
theorem validIdleReceived (p : FibrePort) : Statement (.validIdleReceived p) := by rintro q c ⟨⟩
theorem codeError (p : FibrePort) : Statement (.codeError p) := by rintro q c ⟨⟩
theorem codeLock (p : FibrePort) : Statement (.codeLock p) := by rintro q c ⟨⟩
theorem lockErrorLimit (p : FibrePort) : Statement (.lockErrorLimit p) := by rintro q c ⟨⟩
theorem lockErrorRestart : Statement (.lockErrorRestart) := by rintro q c ⟨⟩
theorem frameHeaderReceived (p : FibrePort) (arrival : Word) (frame : Option Frame) : Statement (.frameHeaderReceived p arrival frame) := by rintro q c ⟨⟩
theorem badFrameClose (p : FibrePort) (received : List Byte) (closing : Closing) : Statement (.badFrameClose p received closing) := by rintro q c ⟨⟩
theorem dataCopy (p : FibrePort) (arrival : Word) (frame : Frame) : Statement (.dataCopy p arrival frame) := by rintro q c ⟨⟩
theorem returnedCopy (p : FibrePort) (arrival : Word) (frame : Frame) : Statement (.returnedCopy p arrival frame) := by rintro q c ⟨⟩
theorem probeAtFollower (p : FibrePort) (frame : Frame) : Statement (.probeAtFollower p frame) := by rintro q c ⟨⟩
theorem probeReturn (p : FibrePort) (arrival : Word) (frame : Frame) : Statement (.probeReturn p arrival frame) := by rintro q c ⟨⟩
theorem probeTimeout : Statement (.probeTimeout) := by rintro q c ⟨⟩
theorem probeRepeatTimer : Statement (.probeRepeatTimer) := by rintro q c ⟨⟩
theorem tripFrame (p : FibrePort) (frame : Frame) : Statement (.tripFrame p frame) := by rintro q c ⟨⟩
theorem fragment (p : FibrePort) (frame : Frame) : Statement (.fragment p frame) := by rintro q c ⟨⟩
theorem tile (p : FibrePort) (frame : Frame) : Statement (.tile p frame) := by rintro q c ⟨⟩
theorem undelivered (p : FibrePort) (frame : Frame) : Statement (.undelivered p frame) := by rintro q c ⟨⟩
theorem transmissionEnd (p : FibrePort) : Statement (.transmissionEnd p) := by rintro q c ⟨⟩
theorem lineNodeBoundary : Statement (.lineNodeBoundary) := by rintro q c ⟨⟩
theorem localBoundary : Statement (.localBoundary) := by rintro q c ⟨⟩
theorem timingClose : Statement (.timingClose) := by rintro q c ⟨⟩
theorem acquisitionWaitExpiry : Statement (.acquisitionWaitExpiry) := by rintro q c ⟨⟩
theorem returnTimeout (copy : FibrePort) : Statement (.returnTimeout copy) := by rintro q c ⟨⟩
theorem asyncWindowOpen : Statement (.asyncWindowOpen) := by rintro q c ⟨⟩
theorem asyncWindowClose : Statement (.asyncWindowClose) := by rintro q c ⟨⟩
theorem pulseStart (line : Fin 4) : Statement (.pulseStart line) := by rintro q c ⟨⟩
theorem pulseEnd (line : Fin 4) : Statement (.pulseEnd line) := by rintro q c ⟨⟩
theorem tripInputChange (input : Fin 4) (active : Bool) : Statement (.tripInputChange input active) := by rintro q c ⟨⟩
theorem filterTimeElapsed (input : Fin 4) : Statement (.filterTimeElapsed input) := by rintro q c ⟨⟩
theorem powerOnReset : Statement (.powerOnReset) := by rintro q c ⟨⟩
theorem resetPin : Statement (.resetPin) := by rintro q c ⟨⟩
theorem resetEnd : Statement (.resetEnd) := by rintro q c ⟨⟩
theorem unknownCommand (p : SerialPort) (code : Byte) : Statement (.unknownCommand p code) := by rintro q c ⟨⟩
theorem transactionEnd (p : SerialPort) (midByte : Bool) : Statement (.transactionEnd p midByte) := by rintro q c ⟨⟩
theorem readStatus (p : SerialPort) : Statement (.readStatus p) := by rintro q c ⟨⟩; rfl
theorem readEvents (p : SerialPort) : Statement (.readEvents p) := by rintro q c ⟨⟩; rfl
theorem setEventMask (p : SerialPort) (mask : Half) : Statement (.setEventMask p mask) := by rintro q c ⟨⟩; rfl
theorem raiseTrip (p : SerialPort) (code : Byte) : Statement (.raiseTrip p code) := by rintro q c ⟨⟩; rfl
theorem dropTrip (p : SerialPort) (code : Byte) : Statement (.dropTrip p code) := by rintro q c ⟨⟩; rfl
theorem resetTrip (p : SerialPort) (mask : Word) : Statement (.resetTrip p mask) := by rintro q c ⟨⟩; rfl
theorem readTrips (p : SerialPort) : Statement (.readTrips p) := by rintro q c ⟨⟩; rfl
theorem readRing (p : SerialPort) : Statement (.readRing p) := by rintro q c ⟨⟩; rfl
theorem readSection (p : SerialPort) (address : Byte) : Statement (.readSection p address) := by rintro q c ⟨⟩; rfl
theorem softReset (p : SerialPort) : Statement (.softReset p) := by rintro q c ⟨⟩; rfl
theorem readResetCause (p : SerialPort) : Statement (.readResetCause p) := by rintro q c ⟨⟩; rfl
theorem configureNode (p : SerialPort) (c : ConfigureParams) : Statement (.configureNode p c) := by rintro q c ⟨⟩; rfl
theorem join (p : SerialPort) : Statement (.join p) := by rintro q c ⟨⟩; rfl
theorem start (p : SerialPort) : Statement (.start p) := by rintro q c ⟨⟩; rfl
theorem stop (p : SerialPort) : Statement (.stop p) := by rintro q c ⟨⟩; rfl
theorem ringRestart (p : SerialPort) : Statement (.ringRestart p) := by rintro q c ⟨⟩; rfl
theorem setLineSpeed (p : SerialPort) (speed : Word) : Statement (.setLineSpeed p speed) := by rintro q c ⟨⟩; rfl
theorem setLineLimits (p : SerialPort) (l : LineLimitParams) : Statement (.setLineLimits p l) := by rintro q c ⟨⟩; rfl
theorem writeAxisContext (p : SerialPort) (axis : Byte) (c : ContextParams) : Statement (.writeAxisContext p axis c) := by rintro q c ⟨⟩; rfl
theorem commitContext (p : SerialPort) (mask : Byte) : Statement (.commitContext p mask) := by rintro q c ⟨⟩; rfl
theorem withdrawCommit (p : SerialPort) (mask : Byte) : Statement (.withdrawCommit p mask) := by rintro q c ⟨⟩; rfl
theorem rePhase (p : SerialPort) (mask : Byte) : Statement (.rePhase p mask) := by rintro q c ⟨⟩; rfl
theorem clearTrim (p : SerialPort) (mask : Byte) : Statement (.clearTrim p mask) := by rintro q c ⟨⟩; rfl
theorem readAxis (p : SerialPort) (axis : Byte) : Statement (.readAxis p axis) := by rintro q c ⟨⟩; rfl
theorem readSetpoints (p : SerialPort) : Statement (.readSetpoints p) := by rintro q c ⟨⟩; rfl
theorem publishWords (p : SerialPort) (words : Tab Byte 6) : Statement (.publishWords p words) := by rintro q c ⟨⟩; rfl
theorem writeTripEntry (p : SerialPort) (e : TripEntryParams) : Statement (.writeTripEntry p e) := by rintro q c ⟨⟩; rfl
theorem lockTripTable (p : SerialPort) : Statement (.lockTripTable p) := by rintro q c ⟨⟩; rfl
theorem setTimingLimits (p : SerialPort) (l : TimingLimitParams) : Statement (.setTimingLimits p l) := by rintro q c ⟨⟩; rfl
theorem writeTriggerEntry (p : SerialPort) (form : Byte) (t : TriggerParams) : Statement (.writeTriggerEntry p form t) := by
  intro q c h
  simp only [Sys2Proof.Machine.portCode] at h
  split at h
  · cases h
  · cases h; rfl
theorem writeTriggerLine (p : SerialPort) (line : Byte) (width : Half) : Statement (.writeTriggerLine p line width) := by rintro q c ⟨⟩; rfl
theorem writeTriggerLifetime (p : SerialPort) (lifetime : Byte) : Statement (.writeTriggerLifetime p lifetime) := by rintro q c ⟨⟩; rfl
theorem readStamps (p : SerialPort) : Statement (.readStamps p) := by rintro q c ⟨⟩; rfl
theorem postMark (p : SerialPort) (axis stampId : Byte) (error : Word) (quality : Byte) : Statement (.postMark p axis stampId error quality) := by rintro q c ⟨⟩; rfl
theorem setMarkLimits (p : SerialPort) (age : Byte) (speed : Word) : Statement (.setMarkLimits p age speed) := by rintro q c ⟨⟩; rfl
theorem openStrip (p : SerialPort) (stampId : Byte) (length : Word) (priority : Byte) : Statement (.openStrip p stampId length priority) := by rintro q c ⟨⟩; rfl
theorem writeStripData (p : SerialPort) (handle : Byte) (offset : Word) : Statement (.writeStripData p handle offset) := by rintro q c ⟨⟩; rfl
theorem writeStripDataByte (p : SerialPort) (byte : Byte) : Statement (.writeStripDataByte p byte) := by rintro q c ⟨⟩
theorem closeStrip (p : SerialPort) (handle : Byte) : Statement (.closeStrip p handle) := by rintro q c ⟨⟩; rfl
theorem holdStrip (p : SerialPort) (handle : Byte) : Statement (.holdStrip p handle) := by rintro q c ⟨⟩; rfl
theorem releaseStrip (p : SerialPort) (handle : Byte) : Statement (.releaseStrip p handle) := by rintro q c ⟨⟩; rfl
theorem cancelStrip (p : SerialPort) (handle : Byte) : Statement (.cancelStrip p handle) := by rintro q c ⟨⟩; rfl
theorem listStrips (p : SerialPort) : Statement (.listStrips p) := by rintro q c ⟨⟩; rfl
theorem readStripData (p : SerialPort) (record : Byte) (offset : Word) (count : Half) : Statement (.readStripData p record offset count) := by rintro q c ⟨⟩; rfl
theorem freeStrip (p : SerialPort) (record : Byte) : Statement (.freeStrip p record) := by rintro q c ⟨⟩; rfl
theorem setPoolQuotas (p : SerialPort) (q : PoolParams) : Statement (.setPoolQuotas p q) := by rintro q c ⟨⟩; rfl
theorem postTile (p : SerialPort) (dest screen : Byte) (index : Half) (repaint : Byte) (length : Half) : Statement (.postTile p dest screen index repaint length) := by rintro q c ⟨⟩; rfl
theorem postTileDataByte (p : SerialPort) (byte : Byte) : Statement (.postTileDataByte p byte) := by rintro q c ⟨⟩
theorem fetchTile (p : SerialPort) : Statement (.fetchTile p) := by rintro q c ⟨⟩; rfl
theorem releaseTile (p : SerialPort) : Statement (.releaseTile p) := by rintro q c ⟨⟩; rfl
theorem readRepaints (p : SerialPort) : Statement (.readRepaints p) := by rintro q c ⟨⟩; rfl
theorem postEvent (p : SerialPort) (kind code : Byte) (x y : Half) : Statement (.postEvent p kind code x y) := by rintro q c ⟨⟩; rfl
theorem readConsoleEvents (p : SerialPort) : Statement (.readConsoleEvents p) := by rintro q c ⟨⟩; rfl
theorem selectFalls (p : SerialPort) : Statement (.selectFalls p) := by rintro q c ⟨⟩
theorem commandByteArrival (p : SerialPort) (code : Byte) : Statement (.commandByteArrival p code) := by rintro q c ⟨⟩

end Sys2Proof.Laws.KindOf
end

