-- ==== Sys2Proof/Tests/Slice0.lean ====
section
/-! SUPPORT. Tests: the spec's worked examples, ill-formed terms that the well-formedness checks refuse, one small test per command
family, and for every statement with hypotheses a state that meets them. Expected values are the spec's, at the section that each
heading names, or worked by hand from its rules. -/

namespace Sys2Proof.Tests

-- One test at a time: the tests evaluate in the kernel, and many at once ask for many thread stacks.
set_option Elab.async false

open Sys2Proof Sys2Proof.Machine

/-! ## Well-formedness (12.1 to 12.3) -/

def tripF : Frame := ⟨0xFF, 1, 14, 0x03, 0, .trip ⟨1, 1, 2, 0, 0xFFFF, 4⟩⟩
def probeF : Frame := ⟨0xFF, 1, 51, 0x02, 0, .probe ⟨0, 1, 3 :: List.replicate 46 0⟩⟩
def fragmentBody : FragmentBody := ⟨0, 7, 0, 1, 1, ⟨9, 0, 0, false, false, 0, 0, 0, 0, 0⟩, [0xAA]⟩
def fragF : Frame := ⟨2, 1, 33, 0x04, 1, .fragment fragmentBody⟩
def tileF : Frame := ⟨2, 1, 33, 0x05, 0, .tile ⟨4, 1, 1, 0, 1, [0xAA]⟩⟩
def blank (a : Byte) : Section := ⟨a, 0, 0, 0, 0, 0, 0, 0, 0, 0, 0, 0, 0, 0, ⟨0, 0, 0, 0⟩, ⟨0, 0, 0, 0⟩, Tab.const 6 0, 0⟩
def cycleB : CycleBody := ⟨13, 8, 8, 3, 1, 0xFF, 900, 15, 5000, 100, 0xFFFF, 1, 0, List.replicate 16 ⟨0, 0, 0⟩,
  [1, 2, 3] ++ List.replicate 45 0, 0, [{ blank 1 with flags := 1 }, blank 2, blank 3]⟩
def cycleF : Frame := ⟨0xFF, 1, 284, 0x01, 0, .cycle cycleB⟩

theorem test_wf_accepts : ([.dataCopy .a 0 cycleF, .probeReturn .a 0 probeF, .tripFrame .a tripF, .fragment .a fragF, .tile .a tileF,
    .frameHeaderReceived .a 0 (some cycleF), .frameHeaderReceived .b 5 none, .badFrameClose .a [1, 2, 0, 51, 2, 0] .idle]
    : List Instr).all Instr.wf = true := by decide +kernel
theorem test_wf_refuses_a_section_too_few : (Instr.dataCopy .a 0 { cycleF with body := .cycle { cycleB with
    sections := [blank 1, blank 2] } }).wf = false := by decide +kernel
theorem test_wf_refuses_a_short_plan_list : (Instr.returnedCopy .a 0 { cycleF with body := .cycle { cycleB with
    plan := [1, 2, 3] } }).wf = false := by decide +kernel
theorem test_wf_refuses_a_short_grant_list : (Instr.dataCopy .a 0 { cycleF with body := .cycle { cycleB with
    grants := [] } }).wf = false := by decide +kernel
theorem test_wf_refuses_46_probe_slots : (Instr.probeAtFollower .a { probeF with body := .probe ⟨0, 1,
    List.replicate 46 0⟩ }).wf = false := by decide +kernel
theorem test_wf_refuses_a_trip_of_15_bytes : (Instr.tripFrame .a { tripF with length := 15 }).wf = false := by decide +kernel
theorem test_wf_refuses_a_fragment_longer_than_declared : (Instr.fragment .a { fragF with length := 34 }).wf = false := by
  decide +kernel
theorem test_wf_refuses_a_tile_of_1025_bytes : (Instr.tile .a ⟨2, 1, 1057, 0x05, 0, .tile ⟨4, 1, 1, 0, 1025,
    List.replicate 1025 0⟩⟩).wf = false := by decide +kernel
theorem test_wf_refuses_a_kind_of_another_row : (Instr.tile .a fragF).wf = false ∧ (Instr.undelivered .a tripF).wf = false := by
  decide +kernel
theorem test_wf_refuses_a_known_kind_as_other_bytes : (Instr.frameHeaderReceived .a 0 (some ⟨0xFF, 1, 14, 0x03, 0,
    .other []⟩)).wf = false := by decide +kernel
theorem test_wf_refuses_a_header_of_5_bytes : (Instr.badFrameClose .a [1, 2, 0, 51, 2] .idle).wf = false := by decide +kernel
theorem test_wf_refuses_a_form_of_another_row : (Instr.writeTriggerEntry .panel 1 ⟨0, 0, 0, 0, 0, 1, 0, 0, 0, 1⟩).wf = false := by
  decide +kernel

/-! ## Worked examples -/

/-- The bit order and generator of R184; the check value of this CRC over "123456789" is general knowledge. -/
theorem test_crc_check_value : crc [0x31, 0x32, 0x33, 0x34, 0x35, 0x36, 0x37, 0x38, 0x39] = 0xFC891918 := by decide +kernel

/-- Section 1.7.1. -/
theorem test_routes_intact : [7, 12, 3, 25, 9, 40, 8].map (routeOf [7, 12, 3, 25, 9, 40] (some .intact) 25)
    = [.a, .b, .b, .none, .a, .a, .none] := by decide +kernel
theorem test_routes_after_1 : [7, 12, 3, 25, 9, 40].map (routeOf [7, 12, 3, 25, 9, 40] (some (.after 1)) 25)
    = [.a, .a, .b, .none, .a, .a] := by decide +kernel

/-- Section 2.7. -/
theorem test_plan_on_a_broken_ring :
    let r := planOf 7 LineTiming.reset ⟨true, [12], 400⟩ (some ⟨true, [40, 9, 25, 3], 900⟩)
    (r.plan, r.brk, r.delay) = ([7, 12, 3, 25, 9, 40], .after 1, 1300) := by decide +kernel

/-- A follower of section 2.6 in JOINING, before the timing close of a cycle. -/
def aligning (l : Word) (a align : Nat) (tA tB : Option Word) : State := { State.reset with
  tick := l + 5000
  ctn := { Ctn.reset with
    state := .joining
    config := { NodeConfig.reset with address := 25, role := .follower }
    boundary := some l, next := l + 62500, cycle := 1, plan := [7, 25]
    fol := { Follower.reset with offset := some a, delay := 5000, align := align, code := 4, thisA := tA, thisB := tB, seen := [1] } } }
/-- What its timing close gives: next boundary, offset, alignment count, state. -/
def closing (s : State) : Option (Word × Option Nat × Nat × NodeState) :=
  match exec .timingClose s with
  | .next t => some (t.ctn.next, t.ctn.fol.offset, t.ctn.fol.align, t.ctn.state)
  | .fault _ | .refused _ => none
/-- Section 2.6, cycles 1, 4 and 5. -/
theorem test_alignment_cycle_1 : closing (aligning 100380 800 3 (some 101200) (some 104600))
    = some (162888, some 800, 4, .joining) := by decide +kernel
theorem test_alignment_cycle_4 : closing (aligning 287900 800 6 (some 288700) none) = some (350400, some 800, 7, .joining) := by
  decide +kernel
theorem test_alignment_cycle_5 : closing (aligning 350400 800 7 (some 351201) (some 354600))
    = some (412900, some 801, 8, .aligned) := by decide +kernel

/-- Samples that successive boundaries generate: speed, position, line state. -/
def generated (cls : Nat) (targets : List Int) (x : Sample) : List (Int × Nat × LineState) :=
  (targets.foldl (fun (acc : List (Int × Nat × LineState) × Sample) v =>
    let y := generatedSample LineLimits.reset cls v acc.2
    (acc.1 ++ [(y.v.toInt, y.p.toNat, y.state)], y)) ([], x)).1
/-- Section 4.3.1. -/
theorem test_ramp_and_reversal : generated 0 [50000, 50000, 50000, 50000, -30000, -30000, -30000, -30000, -30000]
    ⟨11, 5000000, 0, .halt, .generated, true⟩
    = [(20000, 5020000, .moving), (40000, 5060000, .moving), (50000, 5110000, .moving), (50000, 5160000, .moving),
       (30000, 5190000, .moving), (10000, 5200000, .moving), (0, 5200000, .moving), (-20000, 5180000, .moving),
       (-30000, 5150000, .moving)] := by decide +kernel
/-- Section 4.3.2: repeat 3 begins at 3 · 2^32. -/
theorem test_trip_ramp_through_a_repeat : generated 2 [0, 0, 0] ⟨42, 3 * 4294967296 + 4294767296, 250000, .moving, .generated, true⟩
    = [(150000, 3 * 4294967296 + 4294917296, .tripRamp), (50000, 4 * 4294967296, .tripRamp), (0, 4 * 4294967296, .tripHold)] := by
  decide +kernel

/-- An axis of section 5.7 in FOLLOW. -/
def following (num : Int) (den r : Nat) (anchor : Pos) : Axis := { Axis.reset with
  ctxA := { AxisContext.reset with mode := .follow, num := num, den := den }, r := r, anchor := some anchor }
def sampleAt (b : Word) (p : Pos) (v : Word) : Sample := ⟨b, p, v, .moving, .received, true⟩
/-- The quotient W and the remainder of one gear step over the travel from `p` to `q`. -/
def geared (a : Axis) (p q : Pos) : Int × Option Nat × Bool :=
  let x := a.compute 9 (some (sampleAt 8 p 0, sampleAt 9 q 0)) false false false
  (x.2.w, x.1.prepared.map PreparedStep.r, x.2.velSat)
/-- Sections 5.7.1, 5.7.2 and 5.7.5. -/
theorem test_remainder_carried : geared (following 3 7 0 0) 0 1000000 = (428571, some 3, false)
    ∧ geared (following 3 7 3 0) 0 1000000 = (428571, some 6, false)
    ∧ geared (following 3 7 6 0) 0 1000000 = (428572, some 2, false) := by decide +kernel
theorem test_backward_step : geared (following 3 7 2 1000) 1000 0 = (-429, some 5, false) := by decide +kernel
theorem test_velocity_saturates : geared (following 32767 1 0 0) 0 100000 = (2147483647, some 0, true) := by decide +kernel
/-- Section 5.7.3. -/
theorem test_engagement :
    ((following 3 7 0 0).compute 9 (some (sampleAt 8 0 0, sampleAt 9 9589934593 0)) true false false).1.prepared.map
      (fun x => (x.q, x.r, x.anchor)) = some (4109971968, 3, 9589934593) := by decide +kernel

/-- Section 7.8: samples b and b + 1, entries 3, 5 and 9. -/
def entryAt (angle : Word) (line : Fin 4) (n : Nat) : Trigger :=
  ⟨true, .angle, angle, line, n, 0, 2000, 0, 1, .idle⟩
def pulseOf (t : Trigger) (i : Nat) : Bool × Word × Nat × Half × Bool :=
  let x := sampleAt 5 (17 * 4294967296 + 4290000000) 25000000
  let y := t.anglePulse i 1250 1000000 62500 x 25000000
  (t.crosses x.p 25000000, y.start, y.content.tOff, y.content.repeatNo, y.content.late)
theorem test_trigger_crossings : pulseOf (entryAt 10000000 0 2) 3 = (true, 1035418, 37418, 18, false)
    ∧ pulseOf (entryAt 10100000 0 1) 5 = (true, 1035668, 37668, 18, false)
    ∧ pulseOf (entryAt 4290100000 1 1) 9 = (true, 1000000, 250, 17, true) := by decide +kernel
theorem test_trigger_phase_of_the_repeat : ({ entryAt 10000000 0 2 with phase := 1 } : Trigger).crosses
    (17 * 4294967296 + 4290000000) 25000000 = false := by decide +kernel

/-- Section 8.5: axis 2 with trim `t`, stamp `id` of repeat `r`, the latest sample in repeat `latest`. -/
def marked (t : Int) (id : Byte) (r : Half) (latest : Nat) : State :=
  let a : Axis := { Axis.reset with
    ctxA := ⟨.follow, 1, 1, 0, 0, true, 128, 2000, 300, 40, 50⟩, t := t, tStar := t, anchor := some 0 }
  { State.reset with
    lu := { LineUnit.reset with window := [sampleAt 9 (BitVec.ofNat 48 (latest * 4294967296)) 100000000] }
    axe := { AxisEngine.reset with axes := (Tab.const 8 Axis.reset).set 2 a }
    tgu := { TriggerUnit.reset with stamps := [⟨id, ⟨5, 0, 8, 0, r, 0, 100000000, 0x0C, false, false⟩, false, 0, 1⟩] } }
def markOf (s : State) (id : Byte) (e : Word) (quality : Byte) : Option (Int × Bool × List Byte) :=
  match exec (.postMark .panel 2 id e quality) s with
  | .next t => some ((t.axe.axes.get 2).tStar, (t.axe.axes.get 2).trimLimit, t.tgu.stamps.map Stamp.marked)
  | .fault _ | .refused _ => none
theorem test_mark_applied : markOf (marked (-600) 41 101 102) 41 1001 85 = some (-1100, false, [4]) := by decide +kernel
theorem test_mark_in_the_deadband : markOf (marked (-1100) 42 102 103) 42 (-37) 95 = some (-1100, false, [4]) := by decide +kernel
theorem test_mark_limited : markOf (marked (-1100) 43 103 104) 43 2003 80 = some (-2000, true, [4]) := by decide +kernel
theorem test_mark_truncates_toward_zero : markOf (marked (-2000) 44 104 105) 44 (-301) 80 = some (-1850, false, [4]) := by
  decide +kernel
theorem test_mark_stale : markOf (marked (-1850) 45 105 108) 45 400 90 = some (-1850, false, [0]) := by decide +kernel

/-- Section 9.4.1. -/
def demand (a : Byte) (t al n : Half) : Option TableEntry :=
  some ⟨{ blank a with tileDemand := t, alertDemand := al, normalDemand := n }, 6, false⟩
def granting : State := { State.reset with
  ctn := { Ctn.reset with
    config := { NodeConfig.reset with address := 7, role := .line, code := 4 }
    plan := [7, 12, 3, 25, 9, 40], line := { LineTiming.reset with delay := some 5000 } }
  cfe := { Cfe.reset with table := (((((Tab.const 48 none).set 6 (demand 7 300 0 0)).set 11 (demand 12 0 195 399)).set 2
    (demand 3 0 0 900)).set 24 (demand 25 0 600 0)).set 8 (demand 9 0 0 50) |>.set 39 (demand 40 0 0 1000) }
  pse := { PacketStore.reset with rotate := 3 } }
theorem test_budget : granting.budget = 103012 := by decide +kernel
theorem test_grant_table : (granting.grantTable 6).entries
    = [⟨7, 128, 0⟩, ⟨25, 0, 512⟩, ⟨12, 0, 407⟩, ⟨9, 0, 50⟩, ⟨40, 0, 512⟩] := by decide +kernel

/-- Section 9.4.1: the demands of node 12's strips. -/
def stampOf (id : Byte) : Stamp := ⟨id, ⟨0, 0, 8, 0, 5, 0, 100, 0xFF, false, false⟩, false, 0, 1⟩
def stripOf (n : Nat) (st : StripState) : Strip :=
  ⟨7, stampOf 9, n, List.replicate n 0, 0, .alert, st, .none, (n + 255) / 256, false⟩
theorem test_strip_demands : demandUnits (stripOf 12000 .queued).remaining = 195
    ∧ demandUnits (stripOf 24576 .queued).remaining = 399 := by decide +kernel

/-- Section 10.2.1: a tile for a screen of node 25, which has one page free. -/
def pressed (n : Nat) : State := { State.reset with
  ctn := { Ctn.reset with config := { NodeConfig.reset with address := 25, role := .follower } }
  pse := { PacketStore.reset with
    descriptors := (Tab.const 16 ⟨none, none⟩).set 0 ⟨some { stripOf 0 .opened with pages := 8191 - n }, none⟩ }
  teu := { TileUnit.reset with
    incoming := (List.range n).map fun k => ⟨2, BitVec.ofNat 16 (9 + k), false, 1, [0], false⟩, lastBroadcast := some 700 } }
def arrived (s : State) (screen : Byte) (index : Half) (repaint : Bool) (n : Nat) : Nat × Half :=
  let t := s.offerTile ⟨screen, index, repaint, 3, List.replicate n 0, false⟩
  (t.teu.incoming.length, t.teu.repaint)
theorem test_tile_queue_full_drops : arrived (pressed 64) 4 1 false 200 = (64, 0x10) := by decide +kernel
theorem test_tile_coalesces_in_a_full_queue : arrived (pressed 64) 2 9 false 200 = (64, 0) := by decide +kernel
theorem test_tile_without_pages_drops : arrived (pressed 3) 4 1 false 300 = (3, 0x10) := by decide +kernel
theorem test_tile_repaint_clears : arrived { pressed 3 with teu := { (pressed 3).teu with repaint := 0x30 } } 4 1 true 200
    = (4, 0x20) := by decide +kernel
theorem test_repeated_broadcasts : repeatedBroadcast (some 700) 701 false = false ∧ repeatedBroadcast (some 701) 701 false = true
    ∧ repeatedBroadcast (some 701) 701 true = true ∧ repeatedBroadcast (some 701) 5 true = false := by decide +kernel

/-- Section 4.5.1: the extrapolations of cycles 62 and 65 to 67; `cls` is the class of the latched LINE_LOST entry. -/
def reckoned (latched : Bool) (b : Word) (p : Pos) (v : Word) : Option (Nat × Nat × LineState) :=
  let s : State := { State.reset with
    lu := { LineUnit.reset with window := [⟨b, p, v, .moving, .received, true⟩] }
    tru := { TripUnit.reset with
      entries := TripUnit.defaultEntries.update 1 fun e => e.map fun x => { x with latch := latched } } }
  (s.extrapolate (b - 1)).lu.latest.map fun y => (y.p.toNat, y.v.toNat, y.state)
theorem test_dead_reckoning : reckoned false 62 10000000 250000 = some (10250000, 250000, .moving)
    ∧ reckoned true 66 11000000 250000 = some (11250000, 150000, .tripRamp)
    ∧ reckoned true 68 11400000 50000 = some (11450000, 0, .tripHold) := by decide +kernel

/-! ## States that meet the hypotheses of the statements -/

def lit (f : Fibre) : Fibre := { f with light := true, link := .locked, idles := 64, errors := 0 }
def acq (n : Nat) : Fibre := { Fibre.reset with light := true, link := .acquiring, idles := n }
def lockedPorts : Fpf := { Fpf.reset with a := lit Fibre.reset, b := lit Fibre.reset }
def idle : State := { State.reset with fpf := lockedPorts }
def windowOf (st : LineState) (v : Word) (o : SampleOrigin) : LineUnit :=
  { LineUnit.reset with window := [⟨13, 1000, v, st, o, true⟩, ⟨14, 1000 + v.signExtend 48, v, st, o, true⟩] }
/-- Node 2 of the plan 1, 2, 3: a follower in RUN at the start of cycle 13. -/
def follower : State := { idle with
  tick := 1000
  fpf := { lockedPorts with routes := routesOf [1, 2, 3] (some .intact) 2 }
  ctn := { Ctn.reset with
    state := .run, config := { NodeConfig.reset with address := 2, role := .follower }
    boundary := some 1000, next := 126000, cycle := 13, plan := [1, 2, 3], breakIx := some .intact
    fol := { Follower.reset with offset := some 300, lineAddress := some 1, delay := 900, align := 8, seen := [12] } }
  lu := windowOf .halt 0 .received }
/-- The same node in another state. -/
def inState (st : NodeState) : State := { follower with ctn := { follower.ctn with state := st } }
/-- Node 1, the line node of the same ring, in ALIGNED. -/
def lineNode : State := { follower with
  fpf := { lockedPorts with routes := routesOf [1, 2, 3] (some .intact) 1 }
  ctn := { follower.ctn with
    state := .aligned, config := { NodeConfig.reset with address := 1, role := .line }, fol := Follower.reset
    line := { LineTiming.reset with delay := some 900, measured := true } }
  lu := windowOf .halt 0 .generated }
/-- The follower with a port's transmitter at work. -/
def sending (o : Origin) (w : List OutFrame) : State := { follower with
  fpf := { follower.fpf with b := { follower.fpf.b with
    tx := some ⟨⟨tripF, o, .b, none, false, false, none, 22, 0⟩, 900, 0, none⟩, waiting := w } } }
def waiting (f : Frame) : OutFrame := ⟨f, .transit, .b, none, false, false, none, f.size, 0⟩
/-- The follower with a frame out of port B that has started at tick 1000, this very tick. -/
def startingNow (f : Frame) (o : Origin) : State := { follower with
  fpf := { follower.fpf with b := { follower.fpf.b with
    tx := some ⟨⟨f, o, .b, none, false, false, none, f.size, 0⟩, 1000, 0, some 1000⟩ } } }
/-- The follower, which a Soft Reset met while a frame was coming in at port A, and which has taken a Join since. -/
def reset : State := { follower with
  fpf := { follower.fpf with a := { follower.fpf.a with rx := some ⟨500, none, false, true⟩ } } }
def stored (x : Strip) : State := { follower with pse := { PacketStore.reset with
  descriptors := (Tab.const 16 ⟨none, none⟩).set 15 ⟨some x, none⟩ } }

/-- What is read of the state after one command. -/
def after {α : Type} (c : Instr) (s : State) (f : State → α) : Option α :=
  match exec c s with
  | .next t => some (f t)
  | .fault _ | .refused _ => none

/-! ### Chapter 1 -/

theorem witness_LinkEventsBelowTheirLimits : State.reset.hold = none ∧ (State.reset.fibre .a).link = .dark
    ∧ State.reset.ctn.boundary = none ∧ (acq 62).link = .acquiring ∧ (acq 62).idles + 1 < 64
    ∧ ({ lit Fibre.reset with lockErrors := 6 } : Fibre).lockErrors + 1 < 8 ∧ (lit Fibre.reset).link = .locked := by
  decide +kernel
theorem witness_PortsEnterAndLeaveLocked :
    let s : State := { idle with fpf := { lockedPorts with a := acq 63, b := { lit Fibre.reset with lockErrors := 7 } } }
    s.hold = none ∧ (s.fibre .a).link = .acquiring ∧ (s.fibre .a).idles = 63 ∧ (s.fibre .b).link = .locked
    ∧ (s.fibre .b).lockErrors = 7 := by decide +kernel
/-- Frames wait at port B, which goes down: port A sends a frame and has one waiting, or is free and takes the first of them. -/
theorem witness_PortsEnterAndLeaveLocked_waiting_frames :
    let own : OutFrame := { waiting tripF with origin := .ownTrip }
    let s : State := { follower with fpf := { follower.fpf with
      a := { follower.fpf.a with tx := some ⟨waiting tripF, 900, 0, some 900⟩, waiting := [waiting tripF] }
      b := { follower.fpf.b with waiting := [own, waiting tripF] } } }
    let z : State := { s with fpf := { s.fpf with a := follower.fpf.a } }
    s.hold = none ∧ (s.fibre .b).link = .locked ∧ (s.fibre FibrePort.b.other).link = .locked
    ∧ ((s.fibre FibrePort.b.other).tx.all fun x => x.presented != some s.tick) = true ∧ (s.fibre FibrePort.b.other).waiting ≠ []
    ∧ (z.hold = none ∧ (z.fibre FibrePort.b.other).tx = none ∧ (z.fibre FibrePort.b.other).waiting = []
      ∧ (waiting tripF).cls ≤ own.cls ∧ ¬ (tripF.wrapped ∧ tripF.rewrapped)
      ∧ after (.lightLost .b) z (fun t => (t.fpf.b.waiting.length, t.fpf.a.waiting.length, t.fpf.a.tx.map fun x =>
          (x.out.frame.kind, x.out.frame.flags))) = some (0, 1, some (0x03, 0x80))) := by decide +kernel
theorem witness_HeadersAreSentOnOrWrapped : follower.hold = none ∧ (follower.fibre .a).link = .locked ∧ tripF.wf
    ∧ validLength tripF.kind tripF.length.toNat = true ∧ follower.ctn.state ≠ .passive
    ∧ tripF.kind ∈ [Kind.trip, Kind.fragment, Kind.tile] ∧ tripF.source ≠ follower.ctn.config.address
    ∧ tripF.dest ≠ follower.ctn.config.address ∧ ¬ (follower.ctn.config.role = .line ∧ tripF.passed ∧ ¬ tripF.wrapped)
    ∧ (follower.fibre FibrePort.a.other).link = .locked
    ∧ (idle.hold = none ∧ (idle.fibre .b).link = .locked ∧ cycleF.wf ∧ validLength cycleF.kind cycleF.length.toNat = true
      ∧ idle.ctn.state = .passive ∧ cycleF.kind ∈ [Kind.cycle, Kind.trip, Kind.fragment, Kind.tile]
      ∧ (idle.fibre FibrePort.b.other).link = .locked)
    ∧ (let s : State := { follower with fpf := { follower.fpf with b := acq 3 } }
      s.hold = none ∧ (s.fibre .a).link = .locked ∧ s.ctn.config.role = .follower ∧ s.ctn.state ≠ .passive
      ∧ (s.fibre FibrePort.a.other).link ≠ .locked ∧ (s.fibre .a).tx = none ∧ (s.fibre .a).waiting = [])
    ∧ (let s : State := { follower with fpf := { follower.fpf with b := { follower.fpf.b with
        tx := some ⟨waiting fragF, 1096, 0, some 1000⟩ } } };
      (s.fibre .b).tx = some ⟨waiting fragF, 1096, 0, some 1000⟩ ∧ (s.reach (997 + 3)).tick = 1000
      ∧ tripF.kind = Kind.trip ∧ fragF.kind ≠ Kind.trip ∧ (s.fibre .b).fifoUsed + fragF.size ≤ 8192) := by decide +kernel
/-- CYCLE frames outside the node's plan, state or cycle, which a follower sends on from a LOCKED port or turns back at a down one. -/
theorem witness_HeadersAreSentOnOrWrapped_cycle_frames :
    let plain (s : State) (f : Frame) : Prop := s.ctn.state ∉ [.aligned, .run] ∨ f.wrapped ∨ f.restart
      ∨ s.ctn.fol.lineAddress ≠ some f.source ∨ s.ctn.config.address ∉ cycleB.addresses
    let outside : State := { inState .joining with ctn := { (inState .joining).ctn with plan := [1, 3] } }
    (follower.ctn.config.role = .follower ∧ cycleF.source ≠ follower.ctn.config.address ∧ cycleF.dest ≠ follower.ctn.config.address
      ∧ cycleF.kind = Kind.cycle ∧ cycleF.wf ∧ validLength cycleF.kind cycleF.length.toNat = true)
    ∧ plain follower { cycleF with flags := 0x80 } ∧ plain follower { cycleF with flags := 0x01 }
    ∧ plain follower { cycleF with source := 3 } ∧ plain (inState .joining) cycleF
    ∧ (outside.ctn.state = .joining ∧ outside.ctn.plan ≠ [] ∧ outside.ctn.config.address ∉ outside.ctn.plan)
    ∧ (inState .joining).ctn.config.address ∈ (inState .joining).ctn.plan := by decide +kernel
/-- Own frames that start at this very tick, and the strip or tile entry of each. -/
theorem witness_HeadersAreSentOnOrWrapped_own_frames_called_back :
    let f : Frame := { fragF with dest := 3, source := 2 }
    let u : Frame := { tileF with dest := 3, source := 2 }
    let s := startingNow f (.ownFragment 15 7 true true)
    let z := startingNow u .ownTile
    let entry (started : Nat) : OutTile := ⟨3, 4, 1, false, [0xAA], 1, started, none⟩
    (s.fibre .b).tx.all (fun x => x.presented == some (s.reach (997 + 3)).tick && x.out.origin == .ownFragment 15 7 true true) = true
    ∧ ((stored (stripOf 1 .sending)).pse.descriptors.get 15).strip = some (stripOf 1 .sending)
    ∧ ((stripOf 1 .sending).id = 7 ∧ (stripOf 1 .sending).lostDue = false ∧ (stripOf 1 .sending).pending = .none)
    ∧ (z.fibre .b).tx.all (fun x => x.presented == some (z.reach (997 + 3)).tick && x.out.origin == .ownTile) = true
    ∧ u.body = .tile ⟨4, 1, 1, 0, 1, [0xAA]⟩ ∧ ((entry 1).seq = 1 ∧ 0 < (entry 1).started ∧ 1 < (entry 2).started)
    ∧ (entry 1 :: [entry 0] = [entry 1] ++ entry 0 :: [] ∧ (entry 0).started = 0
      ∧ (entry 0).dest = (entry 1).dest ∧ (entry 0).screen = (entry 1).screen ∧ (entry 0).index = (entry 1).index) := by
  decide +kernel
theorem witness_ErrorsAreCountedAndStomped :
    (none : Option Frame).all (fun f => !(knownKind f.kind && validLength f.kind f.length.toNat)) = true
    ∧ (some { tripF with length := 15 } : Option Frame).all (fun f => !(knownKind f.kind && validLength f.kind f.length.toNat)) = true
    ∧ validLength fragF.kind fragF.length.toNat = true ∧ fragF.dest = follower.ctn.config.address ∧ follower.ctn.state ≠ .passive
    ∧ ({ tripF with source := 2 } : Frame).source = follower.ctn.config.address
    ∧ (lineNode.ctn.config.role = .line ∧ cycleF.kind = Kind.cycle ∧ lineNode.ctn.state ≠ .passive
      ∧ (let f : Frame := { tripF with source := 3, flags := 0x20 }
        f.source ≠ lineNode.ctn.config.address ∧ f.dest ≠ lineNode.ctn.config.address ∧ f.passed = true ∧ f.wrapped = false))
    ∧ (let bs := coveredBytes tripF
      headerGood bs = true ∧ closeOf bs .idle ≠ .good ∧ closeOf (wireBytes tripF) .stompDelimiter ≠ .good ∧ byteAt bs 4 ≠ Kind.probe
      ∧ byteAt bs 1 ≠ follower.ctn.config.address ∧ (follower.fibre .a).link = .locked)
    ∧ (let bs := coveredBytes { fragF with source := 2 }
      headerGood bs = true ∧ closeOf bs .idle ≠ .good ∧ byteAt bs 1 = reset.ctn.config.address ∧ reset.ctn.state ≠ .passive
      ∧ reset.discards .a = true) := by decide +kernel
/-- Bad closes of a PROBE, at a follower and at the line node, and of an own FRAGMENT. -/
theorem witness_probes_and_own_fragments_that_close_bad :
    (let bs := coveredBytes probeF;
      headerGood bs = true ∧ closeOf bs .idle ≠ .good ∧ byteAt bs 4 = Kind.probe ∧ byteAt bs 1 = lineNode.ctn.config.address
      ∧ lineNode.ctn.config.role = .line ∧ lineNode.ctn.state ≠ .passive ∧ byteAt bs 1 ≠ follower.ctn.config.address
      ∧ (follower.fibre .a).link = .locked ∧ (follower.fibre .b).tx = none)
    ∧ (let bs := coveredBytes { probeF with source := 3, flags := 0x20 }
      headerGood bs = true ∧ closeOf bs .idle ≠ .good ∧ byteAt bs 1 ≠ lineNode.ctn.config.address ∧ byteAt bs 5 = 0x20)
    ∧ (let bs := coveredBytes { fragF with source := 2, dest := 5, body := .fragment { fragmentBody with handle := 15 } }
      let s := stored (stripOf 1024 .sending)
      headerGood bs = true ∧ closeOf bs .idle ≠ .good ∧ byteAt bs 4 = Kind.fragment ∧ byteAt bs 0 ≠ 0xFF ∧ 9 ≤ bs.length
      ∧ byteAt bs 1 = s.ctn.config.address ∧ s.ctn.state ≠ .passive ∧ s.discards .a = false ∧ s.pse.grant = none
      ∧ (byteAt bs 6).toNat = 15 ∧ byteAt bs 7 ++ byteAt bs 8 = (7 : Half)
      ∧ 16 ≤ (byteAt (coveredBytes { fragF with body := .fragment { fragmentBody with handle := 16 } }) 6).toNat) := by decide +kernel
theorem witness_TransmissionEndsServeTheArbiter :
    (let s := sending .transit [waiting fragF, waiting tripF];
      s.hold = none ∧ (s.fibre .b).link = .locked ∧ (s.fibre .b).tx ≠ none
      ∧ (s.fibre .b).tx.all (fun x => x.out.incoming == none && x.out.origin == .transit) = true ∧ (s.fibre .b).waiting ≠ [])
    ∧ (let s := sending (.ownCycle .b) [];
      s.hold = none ∧ (s.fibre .b).tx.all (fun x => x.out.incoming == none
        && [.transit, .ownTrip, .ownCycle .a, .ownCycle .b, .ownProbe].contains x.out.origin) = true
      ∧ (s.fibre .b).waiting = [] ∧ s.pse.grant = none ∧ s.pse.offer = none)
    ∧ (let s := sending (.ownFragment 15 7 true false) [];
      (s.fibre .b).tx.all (fun x => x.out.origin == .ownFragment 15 7 true false) = true ∧ (s.fibre .b).waiting = []
      ∧ s.pse.grant = none)
    ∧ ((stripOf 1024 .sending).id = 7 ∧ (stripOf 1024 .sending).lostDue = false ∧ (stripOf 1024 .sending).pending = .none)
    ∧ tileF.body = .tile ⟨4, 1, 1, 0, 1, [0xAA]⟩ := by decide +kernel
/-- R39: an own cycle frame that waited departs as the fragment before it ends, at tick 911, and its return timer runs from there: D 900,
CF_ticks 146, M_ret 512. -/
theorem test_a_waiting_cycle_frame_starts_its_return_timer :
    after (.transmissionEnd .b) { lineNode with
        tick := 905, fpf := (sending .transit [⟨cycleF, .ownCycle .b, .b, none, false, false, none, cycleF.size, 890⟩]).fpf } (fun t =>
      (t.tick, t.fpf.b.tx.map fun y => (y.out.origin, y.start), t.ctn.line.returnB))
      = some (911, some (.ownCycle .b, 911), some ⟨911, 2469, true⟩) := by decide +kernel
/-- The line node in PROBING, a probe out of port `leg` in flight. -/
def probing (leg : FibrePort) : State := { lineNode with ctn := { lineNode.ctn with
  state := .probing
  line := { LineTiming.reset with flight := some ⟨0, leg, some 500⟩, aResult := some ⟨true, [2], 40⟩ } } }
theorem witness_PlansBreaksAndRoutes :
    (let a : ProbeResult := ⟨true, (List.range 47).map (BitVec.ofNat 8), 5⟩
      let b : ProbeResult := ⟨true, [], 7⟩
      a.list.length ≤ 47 ∧ b.list.length ≤ 47 ∧ (48 :: (a.list ++ b.list)).Nodup ∧ a.list.length + b.list.length ≤ 47)
    ∧ (([7, 12, 3] : List Byte).Nodup ∧ ([7, 12, 3] : List Byte)[0]? = some 7 ∧ ([7, 12, 3] : List Byte)[2]? = some 3
      ∧ (0 : Nat) ≠ 2 ∧ (2 : Nat) < 3)
    ∧ (let b : ProbeBody := ⟨0, 1, 3 :: List.replicate 46 0⟩
      (probing .b).hold = none ∧ (probing .b).ctn.config.role = .line ∧ (probing .b).ctn.state = .probing
      ∧ ((probing .b).fibre .a).link = .locked ∧ probeF.wfOf Kind.probe ∧ probeF.body = .probe b
      ∧ probeF.source = (probing .b).ctn.config.address ∧ b.count.toNat ≤ 47
      ∧ (probing .b).ctn.line.flight = some ⟨b.number, .b, some 500⟩ ∧ (probing .b).arrivalAt .a 530 = 530
      ∧ (probing .b).discards .a = false
      ∧ ((530 : Word) - 500).toNat < 125000 ∧ (probing .a).ctn.line.flight = some ⟨b.number, .a, some 500⟩
      ∧ ({ probeF with flags := 0x80 } : Frame).wrapped = true
      ∧ 2 * 0 + (86 + 20 * 2) + 532 + 256 < (probing .b).ctn.config.code * 15625
      ∧ ¬ 2 * 124969 + (86 + 20 * 2) + 532 + 256 < (probing .b).ctn.config.code * 15625) := by decide +kernel
theorem witness_RouteTableFollowsThePlan : follower.RoutesCurrent ∧ ∃ t, exec .localBoundary follower = .next t :=
  ⟨⟨fun _ => by decide +kernel, by decide +kernel⟩, _, rfl⟩

/-! ### Chapter 2 -/

theorem witness_ConfigureNodeWritesTheRecord : follower.Arrives .drive 0x20 ∧ follower.ctn.state ∉ [.passive, .joining]
    ∧ idle.Arrives .drive 0x20 ∧ idle.ctn.state ∈ [.passive, .joining]
    ∧ (let c : ConfigureParams := ⟨49, 1, 1, 2, 1, 0, 0⟩; ¬ c.address.toNat ≤ 48)
    ∧ (let c : ConfigureParams := ⟨48, 2, 1, 32, 64, 48, 0⟩
      c.role = Role.line.code ∧ c.address.toNat ≤ 48 ∧ 2 ≤ c.code.toNat ∧ c.code.toNat ≤ 32 ∧ 1 ≤ c.superLen.toNat
      ∧ c.superLen.toNat ≤ 64 ∧ c.console.toNat ≤ 48 ∧ c.address ≠ (inState .joining).ctn.config.address)
    ∧ (inState .joining).Arrives .drive 0x20 ∧ (inState .joining).ctn.state = .joining := by unfold State.Arrives; decide +kernel
/-- R123, R28: an own TRIP frame that began to leave at the very tick of an entry into PASSIVE is discarded, and the fragment behind it
leaves; a Soft Reset at that tick leaves no part of it on the fibre. -/
theorem test_a_trip_frame_built_at_an_entry_into_passive_is_discarded :
    let s : State := { startingNow tripF .ownTrip with ctn := (inState .joining).ctn }
    let behind : State := s.onFibre .b fun f => { f with waiting := [waiting fragF] }
    after (.configureNode .drive ⟨5, 1, 1, 8, 8, 0, 0⟩) behind (fun t =>
        (t.fpf.b.tx.map fun x => (x.out.frame, x.start), t.fpf.b.waiting.length)) = some (some (fragF, 1000), 0)
    ∧ after (.softReset .drive) s (fun t => (t.fpf.b.tx.isNone, t.fpf.b.sent)) = some (true, none) := by decide +kernel
/-- Node 2 of `follower` in JOINING, with a console address held. -/
def consoleOf (console : Byte) : State := { follower with ctn := { follower.ctn with
  state := .joining, fol := { follower.ctn.fol with console := console } } }
theorem witness_ConfigureNode_changes_the_console :
    let s (a b : Byte) : State := { consoleOf 2 with ctn := { (consoleOf 2).ctn with
      config := { (consoleOf 2).ctn.config with address := a }, fol := { (consoleOf 2).ctn.fol with console := b } } }
    (s 2 2).isConsole = true ∧ (s 2 3).isConsole = false
    ∧ after (.configureNode .drive ⟨3, 1, 1, 8, 8, 0, 0⟩) (s 2 2) State.isConsole = some false
    ∧ after (.configureNode .drive ⟨3, 1, 1, 8, 8, 0, 0⟩) (s 2 3) State.isConsole = some true := by decide +kernel
theorem witness_JoinEntersTheRing : follower.Arrives .drive 0x21
    ∧ ¬ (follower.ctn.state = .passive ∧ follower.ctn.config.address ≠ 0 ∧ follower.ctn.config.role ≠ .none)
    ∧ (inState .passive).Arrives .drive 0x21 ∧ (inState .passive).ctn.state = .passive
    ∧ (inState .passive).ctn.config.address ≠ 0 ∧ (inState .passive).ctn.config.role = .follower
    ∧ (let s : State := { lineNode with ctn := { lineNode.ctn with state := .passive } }
      s.Arrives .drive 0x21 ∧ s.ctn.state = .passive ∧ s.ctn.config.address ≠ 0 ∧ s.ctn.config.role = .line
      ∧ s.fpf.a.link = .locked ∧ s.fpf.a.tx = none ∧ s.fpf.a.waiting = []) := by unfold State.Arrives; decide +kernel
theorem witness_StartAndStopMoveBetweenAlignedAndRun :
    ((inState .aligned).Arrives .drive 0x22 ∧ (inState .aligned).ctn.state = .aligned ∧ (inState .aligned).lineState = some .halt)
    ∧ (idle.Arrives .drive 0x22 ∧ idle.ctn.state ≠ .aligned ∧ idle.Arrives .drive 0x23 ∧ idle.ctn.state ≠ .run)
    ∧ (follower.Arrives .drive 0x23 ∧ follower.ctn.state = .run ∧ follower.lineState = some .halt)
    ∧ (let s : State := { follower with lu := windowOf .tripHold 0 .received }
      s.Arrives .drive 0x23 ∧ s.ctn.state = .run ∧ s.lineState = some .tripHold) := by unfold State.Arrives; decide +kernel
/-- A node with a strip SENDING in descriptor 15 and, in record 31, one ASSEMBLING. -/
def restarting (s : State) : State := { s with pse := { (stored (stripOf 1024 .sending)).pse with
  records := (Tab.const 32 none).set 31 (some ⟨1, 7, stampOf 0, 1, [], .assembling, 13, 0⟩) } }
theorem witness_RingRestartIsAskedFor : (follower.Arrives .drive 0x24 ∧ follower.ctn.config.role ≠ .line)
    ∧ (lineNode.Arrives .drive 0x24 ∧ lineNode.ctn.config.role = .line ∧ lineNode.ctn.state ∈ [.aligned, .run]
      ∧ lineNode.lineState = some .halt)
    ∧ ((restarting lineNode).strip 15 = some (stripOf 1024 .sending) ∧ (stripOf 1024 .sending).state = .sending
      ∧ ((restarting lineNode).pse.records.get 31).isSome) := by unfold State.Arrives; decide +kernel
theorem witness_AnUnwrappedProbeCompletesThePlan :
    let s : State := { lineNode with ctn := { lineNode.ctn with
      state := .probing, line := { LineTiming.reset with flight := some ⟨0, .a, some 500⟩ } } }
    let b : ProbeBody := ⟨0, 1, 3 :: List.replicate 46 0⟩
    s.hold = none ∧ (s.fibre .b).link = .locked ∧ s.ctn.config.role = .line ∧ s.ctn.state = .probing ∧ probeF.wfOf Kind.probe
    ∧ probeF.body = .probe b ∧ probeF.source = s.ctn.config.address ∧ ¬ probeF.wrapped ∧ b.count.toNat ≤ 47
    ∧ s.ctn.line.flight = some ⟨b.number, .a, some 500⟩ ∧ s.arrivalAt .b 530 = 530 ∧ ((530 : Word) - 500).toNat < 125000
    ∧ s.discards .b = false
    ∧ (s.ctn.config.address :: b.slots.take b.count.toNat).Nodup ∧ 30 * b.count.toNat ≤ ((530 : Word) - 500).toNat
    ∧ 2 * 0 + (86 + 20 * 2) + 532 + 256 < s.ctn.config.code * 15625 := by decide +kernel
theorem witness_ProbesFollowTheirCourse :
    (let s : State := { lineNode with ctn := { lineNode.ctn with
        state := .probing, line := { LineTiming.reset with flight := some ⟨255, .a, some 500⟩, repeatAt := some 900 } } };
      s.hold = none ∧ s.ctn.state = .probing ∧ s.ctn.line.flight = some ⟨255, .a, some 500⟩ ∧ s.ctn.line.repeatAt = some 900)
    ∧ (let s := inState .joining;
      let b : ProbeBody := ⟨0, 46, List.replicate 47 3⟩
      let f : Frame := { probeF with body := .probe b }
      s.hold = none ∧ (s.fibre .a).link = .locked ∧ s.ctn.config.role = .follower ∧ s.ctn.state ≠ .passive ∧ f.wfOf Kind.probe
      ∧ ¬ f.wrapped ∧ b.count.toNat < 47 ∧ ¬ (f.source = s.ctn.config.address ∨ s.ctn.config.address ∈ b.slots.take b.count.toNat)
      ∧ s.discards .a = false
      ∧ (let g : ProbeBody := ⟨0, 47, List.replicate 47 2⟩
        ({ probeF with body := .probe g } : Frame).wfOf Kind.probe ∧ g.count.toNat ≤ 47
        ∧ s.ctn.config.address ∈ g.slots.take g.count.toNat)
      ∧ (let g : ProbeBody := ⟨0, 47, List.replicate 47 3⟩
        ({ probeF with body := .probe g } : Frame).wfOf Kind.probe ∧ g.count.toNat = 47 ∧ probeF.source ≠ s.ctn.config.address
        ∧ s.ctn.config.address ∉ g.slots.take g.count.toNat)
      ∧ (let g : Frame := { f with flags := 0x80 }
        g.wfOf Kind.probe ∧ g.wrapped))
    ∧ (let g : Frame := { probeF with source := 3, flags := 0x20 }
      (lineNode.fibre .a).link = .locked ∧ lineNode.ctn.config.role = .line ∧ lineNode.ctn.state ≠ .passive ∧ g.wfOf Kind.probe
      ∧ probeF.source = lineNode.ctn.config.address ∧ g.source ≠ lineNode.ctn.config.address ∧ g.passed ∧ ¬ g.wrapped
      ∧ ¬ ({ g with flags := 0 } : Frame).passed) := by decide +kernel
theorem witness_LineNodeBoundarySendsBothCopies : lineNode.hold = none ∧ lineNode.ctn.config.role = .line
    ∧ lineNode.ctn.state ∈ [.aligned, .run] ∧ lineNode.ctn.boundary = some 1000 ∧ lineNode.ctn.line.restartAsked = false
    ∧ lineNode.ctn.plan.length ≤ 48 ∧ lineNode.fpf.a.link = .locked ∧ lineNode.fpf.b.link = .locked
    ∧ (lineNode.teu.eventsFor 14).length ≤ 2 ∧ lineNode.pse.computed = none
    ∧ (let z : GrantTable := ⟨[⟨1, 2, 3⟩], 2⟩
      ({ lineNode.pse with computed := some z } : PacketStore).computed = some z
      ∧ z.entries.find? (fun e => e.node == lineNode.ctn.config.address) = some ⟨1, 2, 3⟩)
    ∧ ({ lineNode.ctn.line with restartAsked := true } : LineTiming).restartAsked = true
    ∧ (((lineNode.reach 126000).mergedAtBoundary.generate).lu.sample 15).isSome
    ∧ (let w := (lineNode.reach 126000).mergedAtBoundary.generate.boundaryWork
      w.fpf.a.tx.isNone ∧ w.fpf.a.waiting = [] ∧ w.fpf.b.tx.isNone ∧ w.fpf.b.waiting = []) := by decide +kernel
/-- R39: the copies leave at boundary 14 at once, and their return timers run: D 900, CF_ticks 146, M_ret 512. -/
theorem test_both_copies_start_their_return_timers :
    after .lineNodeBoundary lineNode (fun t => (t.ctn.line.returnA, t.ctn.line.returnB))
      = some (some ⟨126000, 127558, true⟩, some ⟨126000, 127558, true⟩) := by decide +kernel
theorem witness_ReturnsMeasureTheRingOrOpenIt :
    let x : ReturnTimer := ⟨1000, 3000, true⟩
    let s : State := { lineNode with ctn := { lineNode.ctn with line := { lineNode.ctn.line with returnA := some x, returnB := some x } } }
    s.hold = none ∧ s.fpf.b.link = .locked ∧ s.ctn.config.role = .line ∧ s.ctn.state ∈ [.aligned, .run] ∧ cycleF.wfOf Kind.cycle
    ∧ cycleF.source = s.ctn.config.address ∧ cycleB.cycle = s.ctn.cycle ∧ ¬ cycleF.restart ∧ ¬ cycleF.wrapped
    ∧ cycleB.coded cycleF.length.toNat ∧ s.ctn.line.keptA = none ∧ s.ctn.line.returnA = some x ∧ x.running = true
    ∧ 0 < (x.deadline - 2999).toInt ∧ s.arrivalAt .b 2999 = 2999 ∧ s.discards .b = false ∧ s.ctn.line.timer .a = some x ∧ s.ctn.line.timer .b = some x := by
  decide +kernel
/-- Copies that return by either port, unwrapped, wrapped and rewrapped; the line node waits for both, or for none. -/
theorem witness_ReturnsMeasureTheRingOrOpenIt_other_copies :
    let x (running : Bool) : ReturnTimer := ⟨1000, 3000, running⟩
    let s (r : Bool) : State := { lineNode with ctn := { lineNode.ctn with
      line := { lineNode.ctn.line with returnA := some (x r), returnB := some (x r), openB := true } } }
    (lineNode.hold = none ∧ (lineNode.fibre .a).link = .locked ∧ lineNode.ctn.config.role = .line
      ∧ lineNode.ctn.state ∈ [.aligned, .run] ∧ (s true).arrivalAt .a 2999 = 2999 ∧ (s true).discards .a = false)
    ∧ cycleF.wfOf Kind.cycle ∧ cycleF.source = lineNode.ctn.config.address ∧ cycleB.coded cycleF.length.toNat
    ∧ cycleB.cycle = lineNode.ctn.cycle ∧ ¬ cycleF.restart ∧ lineNode.ctn.line.keptA = none ∧ lineNode.ctn.line.keptB = none
    ∧ (s true).ctn.line.returnB = some (x true) ∧ (s false).ctn.line.returnA = some (x false) ∧ (2999 - (x true).deadline).toInt < 0
    ∧ lineNode.ctn.line.returnA = none ∧ ¬ ((3000 : Word) - (x true).deadline).toInt < 0
    ∧ ({ cycleF with flags := 0x80 } : Frame).wrapped ∧ ({ cycleF with flags := 0xC0 } : Frame).rewrapped
    ∧ ¬ ({ cycleF with flags := 0x40 } : Frame).wrapped ∧ ¬ ({ cycleB with code := 33 } : CycleBody).coded cycleF.length.toNat
    ∧ ({ cycleF with flags := 0x02 } : Frame).joinPending ∧ ({ cycleF with flags := 0x01 } : Frame).restart := by decide +kernel
theorem witness_LocalBoundaryStartsTheNextCycle : follower.hold = none ∧ follower.ctn.config.role = .follower
    ∧ follower.ctn.boundary = some 1000 ∧ follower.ctn.fol.nextA = none ∧ follower.ctn.state ∈ [.aligned, .run]
    ∧ (inState .joining).ctn.state ∉ [.aligned, .run] := by decide +kernel
/-- Both copies of the next cycle have come, in JOINING and in RUN, there of a cycle taken and of one missed. -/
theorem witness_timing_closes_at_a_local_boundary :
    let s (st : NodeState) (seen : List Word) : State := { inState st with ctn := { (inState st).ctn with
      fol := { follower.ctn.fol with nextA := some 126300, nextB := some 126600, align := 7, seen := seen } } }
    let e : Int := (((126300 : Word) - 126000).toInt + ((126600 : Word) - 126000).toInt - 900) / 2
    (s .joining [14]).hold = none ∧ (s .run [14]).ctn.config.role = .follower ∧ (s .joining [14]).ctn.boundary = some 1000
    ∧ (s .run [14]).ctn.next = 126000 ∧ (s .run [14]).ctn.state ∈ [.joining, .aligned, .run] ∧ e.natAbs ≤ 32
    ∧ (s .joining []).ctn.config.address ∈ (s .joining []).ctn.plan ∧ (s .run [14]).ctn.cycle + 1 ∈ (s .run [14]).ctn.fol.seen
    ∧ (s .aligned []).ctn.cycle + 1 ∉ (s .aligned []).ctn.fol.seen
    ∧ after .localBoundary (s .joining [14]) (fun t => t.ctn.state) = some .aligned := by decide +kernel
theorem witness_TimingClosePlacesTheNextBoundary :
    let holds (s : State) : Prop := s.hold = none ∧ s.ctn.config.role = .follower ∧ s.ctn.boundary = some 1000
      ∧ s.ctn.fol.closed = none ∧ s.ctn.state ∈ [.joining, .aligned, .run] ∧ s.ctn.fol.offset = some 300
    let cycling (tA tB : Option Word) : State := { follower with ctn := { follower.ctn with
      fol := { follower.ctn.fol with seen := [13], thisA := tA, thisB := tB } } }
    holds (aligning 1000 300 7 none none) ∧ holds (aligning 1000 300 7 (some 1332) none) ∧ holds (aligning 1000 300 7 none (some 5701))
    ∧ holds (aligning 1000 300 7 (some 1301) (some 5700)) ∧ holds (cycling none none) ∧ holds (cycling (some 1300) (some 1600))
    ∧ (aligning 1000 300 7 none none).ctn.state = .joining ∧ (cycling none none).ctn.state ∈ [.aligned, .run]
    ∧ (cycling none none).ctn.cycle ∈ (cycling none none).ctn.fol.seen
    ∧ (332 - 300 : Int).natAbs ≤ 32 ∧ (333 - 300 : Int).natAbs ≤ 256 ∧ 256 < (557 - 300 : Int).natAbs
    ∧ (aligning 1000 300 7 none none).ctn.fol.step < 2 ∧ 2 ≤ ({ Follower.reset with step := 2 } : Follower).step
    ∧ (aligning 1000 300 7 none none).ctn.config.address ∈ (aligning 1000 300 7 none none).ctn.plan := by decide +kernel
/-- A data copy of another console, with a grant for node 2. -/
def copyB (k : Word) (console : Byte) : CycleBody := { cycleB with
  cycle := k, console := console, grantCount := 1, grants := ⟨2, 5, 6⟩ :: List.replicate 15 ⟨0, 0, 0⟩ }
def copyF (k : Word) (console : Byte) : Frame := { cycleF with body := .cycle (copyB k console) }
/-- The follower with a changed alignment record. -/
def withFol (f : Follower → Follower) : State := { follower with ctn := { follower.ctn with fol := f follower.ctn.fol } }
/-- The follower without a local boundary. -/
def unaligned (w : Option Acquisition) (waited : Option Word) : State := { follower with ctn := { follower.ctn with
  state := .joining, boundary := none, fol := { follower.ctn.fol with acquisition := w, waited := waited } } }
theorem witness_MissedCyclesAndAcquisitionWaits : follower.hold = none ∧ follower.ctn.config.role = .follower
    ∧ follower.ctn.boundary = some 1000 ∧ follower.ctn.fol.closed = none
    ∧ follower.ctn.cycle ∉ follower.ctn.fol.seen ∧ follower.ctn.state ∈ [.aligned, .run]
    ∧ (follower.lu.sample (follower.ctn.cycle + 1)).isSome ∧ follower.lu.sample (follower.ctn.cycle + 2) = none
    ∧ (inState .aligned).ctn.state = .aligned ∧ ¬ follower.ctn.limits.holdover < min 255 (follower.ctn.fol.holdover + 1)
    ∧ (withFol fun f => { f with holdover := 15 }).ctn.limits.holdover < min 255 (15 + 1)
    ∧ (let w : Acquisition := ⟨14, .b, 1300, 4300⟩
      let s : State := withFol fun f => { f with acquisition := some w }
      s.ctn.fol.acquisition = some w ∧ s.ctn.fol.offset = some 300 ∧ Follower.reset.offset = none) := by decide +kernel
theorem witness_copies_that_are_timed :
    let taken (s : State) (f : Frame) (arrival : Word) : Bool := s.hold == none && (s.fibre .b).link == .locked
      && s.ctn.config.role == .follower && s.ctn.state != .passive && f.wfOf Kind.cycle && !f.restart
      && s.ctn.fol.lineAddress == some f.source && (s.fibre .b).rx == none && s.ctn.fol.thisA == none
      && (match f.body with | .cycle c => !s.ctn.late c.cycle arrival | _ => false)
    let other : Acquisition := ⟨13, .b, 1600, 126000⟩
    taken follower (copyF 13 1) 1300 ∧ (copyB 13 1).coded (copyF 13 1).length.toNat ∧ ¬ (copyF 13 1).wrapped
    ∧ (13 : Word) = follower.ctn.cycle ∧ 0 ≤ ((1300 : Word) - 1000).toInt ∧ ((1300 : Word) - 1000).toInt - 300 = 0
    ∧ (taken follower (copyF 14 1) 125990 ∧ (14 : Word) = follower.ctn.cycle + 1 ∧ ((125990 : Word) - follower.ctn.next).toInt < 0
      ∧ follower.ctn.limits.window < (((125990 : Word) - follower.ctn.next).toInt - 300).natAbs)
    ∧ (taken follower (copyF 20 1) 1300 ∧ (20 : Word) ≠ follower.ctn.cycle ∧ (20 : Word) ≠ follower.ctn.cycle + 1)
    ∧ taken follower { copyF 13 1 with flags := 0x80 } 1300 ∧ ({ copyF 13 1 with flags := 0x80 } : Frame).wrapped
    ∧ taken (withFol fun f => { f with thisB := some 1600 }) (copyF 13 1) 1300
    ∧ taken (unaligned none none) (copyF 13 1) 1300 ∧ (unaligned none none).ctn.boundary = none
    ∧ (unaligned none (some 13)).ctn.fol.waited = some 13
    ∧ taken (unaligned (some other) none) (copyF 13 1) 1300 ∧ other.cycle = 13 ∧ other.copy ≠ FibrePort.b.other
    ∧ taken (unaligned (some other) none) (copyF 14 1) 1300 ∧ ¬ other.cycle = 14 := by decide +kernel
/-- A follower whose timing closes of cycles 13 and 12 were made at 2000 and at 990; copies of both come at 2001. -/
theorem witness_copies_that_are_late :
    let s := withFol fun f => { f with closed := some 2000, closedBefore := some 990 }
    s.hold = none ∧ (s.fibre .b).link = .locked ∧ s.ctn.config.role = .follower ∧ s.ctn.state ≠ .passive ∧ s.ctn.boundary ≠ none
    ∧ cycleF.wfOf Kind.cycle ∧ cycleB.coded cycleF.length.toNat ∧ ¬ cycleF.restart ∧ s.ctn.fol.lineAddress = some cycleF.source
    ∧ (s.fibre .b).rx = none
    ∧ (cycleB.cycle = s.ctn.cycle ∧ s.ctn.fol.closed = some 2000 ∧ 0 < ((2001 : Word) - 2000).toInt)
    ∧ ((copyB 12 1).cycle = s.ctn.cycle - 1 ∧ s.ctn.fol.closedBefore = some 990 ∧ 0 < ((2001 : Word) - 990).toInt) := by
  decide +kernel
theorem witness_BoundariesRunTheWorkOfTheBlocks :
    (follower.hold = none ∧ follower.ctn.boundary = some 1000 ∧ follower.ctn.config.role = .follower
      ∧ follower.ctn.fol.nextA = none ∧ follower.ctn.state ∈ [.aligned, .run] ∧ (inState .joining).ctn.state ∉ [.aligned, .run])
    ∧ (lineNode.hold = none ∧ lineNode.ctn.boundary = some 1000 ∧ lineNode.ctn.config.role = .line
      ∧ lineNode.ctn.state ∈ [.aligned, .run] ∧ lineNode.ctn.line.restartAsked = false)
    ∧ ((15 : Word) + 1).toNat % follower.ctn.fol.superLen = 0 ∧ ¬ ((13 : Word) + 1).toNat % lineNode.ctn.config.superLen = 0
    ∧ (let r : StripRecord := ⟨1, 7, stampOf 0, 1, [], .assembling, 13, 0⟩
      let s : State := { follower with ctn := { follower.ctn with cycle := 15 }
                                       pse := { PacketStore.reset with gap := 3, records := (Tab.const 32 none).set 31 (some r) } }
      s.pse.records.get 31 = some r ∧ r.state = .assembling ∧ (s.pse.gap : Int) ≤ (s.ctn.cycle + 1 - r.lastCycle).toInt
      ∧ s.pse.records.get 0 = none) := by decide +kernel
/-! ### Chapter 3 -/

theorem witness_SectionsAreWrittenInPassing :
    (let s := follower;
      s.hold = none ∧ (s.fibre .b).link = .locked ∧ s.ctn.config.role = .follower ∧ s.ctn.state ∈ [.aligned, .run]
      ∧ cycleF.wfOf Kind.cycle ∧ cycleF.body = .cycle cycleB ∧ cycleF.source ≠ s.ctn.config.address ∧ cycleF.dest = 0xFF
      ∧ s.ctn.config.address.toNat ≤ 48 ∧ s.ctn.fol.lineAddress = some cycleF.source ∧ ¬ cycleF.wrapped ∧ ¬ cycleF.restart
      ∧ cycleB.addresses.idxOf? s.ctn.config.address = some 1 ∧ cycleB.sections[1]? = some (blank 2)
      ∧ (blank 2).written = false ∧ ({ blank 2 with flags := 1 } : Section).written = true
      ∧ (s.teu.eventsFor cycleB.cycle).length ≤ 2 ∧ (s.fibre FibrePort.b.other).link = .locked
      ∧ (s.fibre FibrePort.b.other).tx = none ∧ (s.fibre FibrePort.b.other).waiting = [])
    ∧ (let w : SectionWrite := ⟨{ blank 2 with flags := 1 }, 13, []⟩
      let s (r : Reception) : State := { follower with fpf := { follower.fpf with b := { follower.fpf.b with rx := some r } } }
      ((s ⟨1100, some w, false, false⟩).fibre .b).rx = some ⟨1100, some w, false, false⟩
      ∧ ((s ⟨1100, none, true, false⟩).fibre .b).rx = some ⟨1100, none, true, false⟩ ∧ (s ⟨1100, none, true, false⟩).ctn.state ≠ .passive
      ∧ follower.ctn.config.address ∈ cycleB.addresses ∧ ¬ (follower.teu.carried.any fun x => x.1 == w.cycle)
      ∧ (({ follower.teu with carried := some (13, []) } : TileUnit).carried.any fun x => x.1 == w.cycle)
      ∧ 16 ≤ (List.replicate 16 (⟨1, 0, 0, 0⟩ : EventSlot)).length)
    ∧ (let s := sending .transit [waiting fragF];
      (s.fibre FibrePort.a.other).link = .locked ∧ (s.fibre .b).fifoUsed + cycleF.size ≤ 8192
      ∧ (s.fibre .b).tx.all (fun y => y.presented != some (s.reach (1100 + 3)).tick) = true)
    ∧ (let s : State := { follower with fpf := { follower.fpf with a := acq 3 } };
      (s.fibre FibrePort.b.other).link ≠ .locked ∧ (s.fibre .b).tx = none ∧ (s.fibre .b).waiting = [])
    ∧ (let s (f : Frame) (o : Origin) := startingNow f o;
      ((s tileF .ownTile).fibre FibrePort.a.other).tx.any (fun y => y.presented == some ((s tileF .ownTile).reach (997 + 3)).tick
        && decide (2 < y.out.cls)) = true
      ∧ ((s fragF .transit).fibre .b).tx.all (fun y => y.out.cls == 3 && y.fifoBytes == 0) = true
      ∧ ((s fragF .transit).fibre .b).fifoUsed + fragF.size ≤ 8192) := by decide +kernel
theorem witness_DataCopyHandsOverHeaderSectionsAndSample :
    follower.hold = none ∧ (follower.fibre .b).link = .locked ∧ follower.ctn.config.role = .follower ∧ follower.ctn.state ≠ .passive
    ∧ cycleF.wfOf Kind.cycle ∧ cycleF.body = .cycle cycleB ∧ cycleB.coded cycleF.length.toNat ∧ ¬ cycleF.restart
    ∧ follower.ctn.fol.lineAddress = some cycleF.source ∧ (follower.fibre .b).rx = none ∧ follower.ctn.fol.thisA = none
    ∧ ¬ follower.ctn.late cycleB.cycle 1300 ∧ cycleB.cycle ∉ follower.ctn.fol.seen
    ∧ follower.lu.sample cycleB.sampleBoundary = none ∧ (follower.lu.sample 14).isSome
    ∧ ({ blank 1 with flags := 1 } : Section) ∈ cycleB.sections ∧ (cycleB.sections.map Section.address).Nodup
    ∧ follower.cfe.table.get 0 = none ∧ follower.ctn.plan = cycleB.addresses ∧ ¬ (indexAddress 2 = 1)
    ∧ (cycleB.cycle = follower.ctn.cycle ∧ 0 ≤ ((1300 : Word) - 1000).toInt)
    ∧ ((copyB 13 1).grants.take (copyB 13 1).grantCount.toNat).find? (fun e => e.node == follower.ctn.config.address)
      = some ⟨2, 5, 6⟩
    ∧ follower.ctn.window ≠ .inside ∧ (13 : Word) ∈ (withFol fun f => { f with seen := [13] }).ctn.fol.seen
    ∧ ({ follower.fpf.b with rx := some ⟨1300, some ⟨blank 2, 13, []⟩, false, false⟩ } : Fibre).rx
      = some ⟨1300, some ⟨blank 2, 13, []⟩, false, false⟩ := by decide +kernel
/-- Copies used for nothing: outside their coding, and of another line node; with a write made of the first. -/
theorem witness_copies_used_for_nothing :
    let c : CycleBody := { cycleB with lineState := 9 }
    let w : SectionWrite := ⟨{ blank 2 with flags := 1 }, 13, []⟩
    let s : State := follower.onFibre .b fun f => { f with rx := some ⟨1300, some w, false, false⟩ }
    ({ cycleF with body := .cycle c } : Frame).wfOf Kind.cycle ∧ ¬ c.coded cycleF.length.toNat ∧ (s.fibre .b).link = .locked
    ∧ s.hold = none ∧ (s.fibre .b).rx = some ⟨1300, some w, false, false⟩ ∧ (follower.fibre .b).rx = none
    ∧ follower.ctn.fol.lineAddress = some 1 ∧ ({ cycleF with source := 3 } : Frame).wfOf Kind.cycle := by decide +kernel
theorem witness_consoles_at_a_data_copy :
    let holder (a : Byte) : State := withFol fun f => { f with console := a }
    (holder 2).isConsole = true ∧ follower.isConsole = false ∧ (copyB 13 2).console = follower.ctn.config.address
    ∧ (copyB 13 1).console ≠ follower.ctn.config.address ∧ (copyF 13 2).wfOf Kind.cycle
    ∧ (copyB 13 2).coded (copyF 13 2).length.toNat ∧ (holder 2).ctn.fol.lineAddress = some (copyF 13 2).source
    ∧ (holder 2).teu.console.length ≤ 64 ∧ ((copyB 13 2).sections.map Section.address).Nodup
    ∧ (∀ x ∈ (copyB 13 2).sections, x.address ∈ (copyB 13 2).addresses) ∧ follower.ctn.fol.console ≠ (copyB 13 2).console
    ∧ after (.dataCopy .b 1300 (copyF 13 2)) follower State.isConsole = some true
    ∧ after (.dataCopy .b 1300 (copyF 13 1)) (holder 2) State.isConsole = some false := by decide +kernel
/-- No own FRAGMENT or TILE frame starts at this tick when the transmitters are free. -/
theorem witness_nothing_starts (now : Word) : ¬ follower.StartsAt now ∧ ¬ lineNode.StartsAt now := by
  constructor <;> (intro ⟨p, x, h, _⟩; cases p <;> exact nomatch h)
theorem witness_RestartCopySendsAFollowerToJoining :
    let f : Frame := { cycleF with flags := 1 }
    follower.hold = none ∧ (follower.fibre .b).link = .locked ∧ follower.ctn.config.role = .follower
    ∧ follower.ctn.state ≠ .passive ∧ f.wfOf Kind.cycle ∧ f.body = .cycle cycleB ∧ cycleB.coded f.length.toNat ∧ f.restart
    ∧ (follower.fibre .b).rx = none ∧ follower.ctn.fol.lineAddress = some f.source
    ∧ follower.ctn.fol.restart ≠ some (f.source, cycleB.cycle)
    ∧ (∃ a, follower.ctn.fol.lineAddress = some a ∧ a ≠ ({ f with source := 3 } : Frame).source) := by
  intro f
  have other : ∃ a, follower.ctn.fol.lineAddress = some a ∧ a ≠ ({ f with source := 3 } : Frame).source := ⟨1, by decide +kernel⟩
  and_intros <;> first | exact other | decide +kernel
theorem witness_MergeFindsTheBreakAndTakesTheACopyFirst :
    let s (a b : Option KeptCopy) : State := { lineNode with ctn := { lineNode.ctn with
      line := { lineNode.ctn.line with keptA := a, keptB := b } } }
    let k (n : Nat) : Option KeptCopy := some ⟨n, false, cycleB⟩
    (s (k 1) (k 1)).hold = none ∧ (s (k 1) (k 1)).ctn.config.role = .line ∧ (s (k 1) (k 1)).ctn.state ∈ [.aligned, .run]
    ∧ (s (k 1) (k 1)).ctn.boundary = some 1000 ∧ (s (k 1) (k 1)).ctn.line.restartAsked = false ∧ (s (k 1) (k 1)).ctn.plan.Nodup
    ∧ (s (k 1) none).ctn.line.keptA = k 1 ∧ (s none (k 1)).ctn.line.keptB = k 1 ∧ (s none none).ctn.line.keptA = none
    ∧ (cycleB.sections[0]?.filter Section.written).isSome ∧ cycleB.sections[1]?.filter Section.written = none
    ∧ cycleB.sections[2]?.filter Section.written = none
    ∧ (k 1).any KeptCopy.coded ∧ ¬ (some (⟨1, false, { cycleB with code := 33 }⟩ : KeptCopy)).any KeptCopy.coded
    ∧ (let c (console : Byte) : NodeConfig := { lineNode.ctn.config with console := console }
      ({ lineNode with ctn := { lineNode.ctn with config := c 1 } } : State).isConsole = true ∧ lineNode.isConsole = false)
    ∧ lineNode.teu.console.length ≤ 64 ∧ (lineNode.ctn.plan[1]? = some 2 ∧ addressIndex 2 = some 1) := by decide +kernel

/-! ### Chapters 4 and 5 -/

theorem witness_LineTargetAndGeneration :
    (lineNode.Arrives .drive 0x25 ∧ lineNode.ctn.config.role = .line ∧ lineNode.ctn.state ∈ [.aligned, .run]
      ∧ lineNode.lineState ≠ some .tripRamp ∧ lineNode.lineState ≠ some .tripHold ∧ lineNode.lineClass = 0
      ∧ lineNode.lu.restartPending = false)
    ∧ (follower.Arrives .drive 0x25 ∧ follower.ctn.config.role ≠ .line)
    ∧ (lineNode.hold = none ∧ lineNode.ctn.boundary = some 1000 ∧ lineNode.ctn.line.restartAsked = false
      ∧ lineNode.lu.latest = some ⟨14, 1000, 0, .halt, .generated, true⟩ ∧ lineNode.lu.sample 15 = none) := by
  unfold State.Arrives; decide +kernel
theorem witness_GeneratedSamplesObeyTheLineLaw :
    let l := LineLimits.reset
    (2 : Nat) ≤ 2 ∧ l.vMax < 2 ^ 31 ∧ l.vRev < 2 ^ 31 ∧ -(l.vRev : Int) ≤ -5000000 ∧ (100000000 : Int) ≤ l.vMax
    ∧ -(l.vRev : Int) ≤ (-5000000 : Word).toInt ∧ (100000000 : Word).toInt ≤ l.vMax := by decide +kernel
theorem witness_FollowerIntakeAndExtrapolation : follower.lu.sample cycleB.sampleBoundary = none
    ∧ (follower.lu.sample (cycleB.sampleBoundary - 1)).all (fun y => y.origin != .extrapolated) = true
    ∧ ((windowOf .halt 0 .extrapolated).sample 14).all (fun y => y.origin == .extrapolated) = true
    ∧ ((windowOf .halt 0 .extrapolated).sample 14).isSome ∧ (follower.lu.sample (13 + 1)).isSome
    ∧ follower.lu.sample (13 + 2) = none ∧ follower.lu.sample (99 + 1) = none ∧ follower.lineLostClass ≠ 1 := by decide +kernel
theorem witness_TorqueOffLawKept : follower.TorqueLaw ∧ ∃ t, exec (.raiseTrip .drive 7) follower = .next t :=
  ⟨by constructor <;> decide +kernel, _, rfl⟩
theorem witness_AxisLawKept : follower.AxisLaw ∧ ∃ t, exec (.commitContext .drive 0xFF) follower = .next t := by
  refine ⟨fun i => ?_, _, rfl⟩
  have h : ∀ i : Fin 8, follower.axe.axes.get i = Axis.reset := by decide +kernel
  rw [h i]
  constructor <;> decide
theorem witness_ContextsAreStagedAndCommitted :
    let c (gain : Half) : ContextParams := ⟨1, -3, 7, 0, 0x1000000, 1, gain, 0x7FFFFFFF, 0x1000000, 40, 50⟩
    follower.Arrives .drive 0x27 ∧ 8 ≤ (8 : Byte).toNat ∧ (7 : Byte).toNat = (7 : Fin 8).val
    ∧ follower.axe.commit.getLsbD 7 = false ∧ (0x80 : Byte).getLsbD 7 = true
    ∧ ((c 257).mode.toNat ≤ 2 ∧ (c 257).marks.toNat ≤ 1 ∧ 1 ≤ (c 257).den.toNat ∧ (c 257).oSlew.toNat ≤ 2 ^ 24
      ∧ (c 257).limit.toNat < 2 ^ 31 ∧ (c 257).tSlew.toNat ≤ 2 ^ 24 ∧ (c 257).mode = AxisMode.follow.code)
    ∧ ¬ 1 ≤ ({ c 0 with den := 0 } : ContextParams).den.toNat
    ∧ follower.Arrives .drive 0x28 ∧ follower.Arrives .drive 0x29 ∧ follower.Arrives .drive 0x2A
    ∧ follower.ctn.state ∈ [.aligned, .run] ∧ follower.lineState = some .halt ∧ idle.Arrives .drive 0x2A
    ∧ idle.lineState ≠ some .halt := by unfold State.Arrives; decide +kernel
theorem witness_SwitchAtASupercycleStart :
    let s : State := { follower with
      ctn := { follower.ctn with cycle := 14 }
      lu := { follower.lu with window := [⟨15, 0, 9, .moving, .received, true⟩, ⟨16, 9, 9, .moving, .received, true⟩] }
      axe := { AxisEngine.reset with commit := 0x81 } }
    s.hold = none ∧ s.ctn.config.role = .follower ∧ s.ctn.state ∈ [.aligned, .run] ∧ s.ctn.boundary = some 1000
    ∧ (s.ctn.cycle + 2).toNat % s.ctn.fol.superLen = 0 ∧ (s.lu.sample (s.ctn.cycle + 1)).isSome
    ∧ (s.lu.sample (s.ctn.cycle + 2)).isSome ∧ s.ctn.fol.nextA = none ∧ s.axe.commit.getLsbD 7 = true
    ∧ (s.axe.axes.get 7).ctxA.mode = .off
    ∧ ((s.reach s.ctn.next).startLocalCycle.lu.sample 15).isSome ∧ ((s.reach s.ctn.next).startLocalCycle.lu.sample 16).isSome
    ∧ ((13 : Word) + 2).toNat % follower.ctn.fol.superLen ≠ 0 ∧ ((follower.reach 126000).startLocalCycle.lu.sample 15) = none
    ∧ (let z : State := { s with ctn := { lineNode.ctn with cycle := 14 } };
      z.ctn.config.role = .line ∧ z.ctn.state ∈ [.aligned, .run] ∧ z.ctn.boundary = some 1000
      ∧ (z.ctn.cycle + 2).toNat % z.ctn.config.superLen = 0 ∧ z.ctn.line.restartAsked = false
      ∧ z.lu.latest.map Sample.boundary = some (z.ctn.cycle + 2)
      ∧ after .lineNodeBoundary z (fun t => (t.axe.commit, t.axe.report.map CommitReport.switched)) = some (0, some 0x81)) := by
  decide +kernel
/-- R86, R140: a switch of N and D and of a smaller L, the line halted: R is 0, T and T* are clamped, TRIM_LIMIT is set. -/
theorem test_switch_clears_the_remainder_and_clamps_the_trim :
    let a : Axis := { following 3 7 5 1000 with t := -900, tStar := 700 }
    let x : Axis := { a with ctxA := { a.ctxA with limit := 1000 }, ctxB := { a.ctxA with den := 11, limit := 600 } }
    after .localBoundary { follower with
        ctn := { follower.ctn with cycle := 14 }
        lu := { follower.lu with window := [⟨15, 1000, 0, .halt, .received, true⟩, ⟨16, 1000, 0, .halt, .received, true⟩] }
        axe := { AxisEngine.reset with commit := 0x80, axes := AxisEngine.reset.axes.set 7 x } } (fun t =>
      let z := t.axe.axes.get 7
      (z.ctxA.den, z.r, z.t, z.tStar, z.trimLimit)) = some (11, 0, -600, 600, true) := by decide +kernel
theorem witness_GearStepDividesExactly :
    let a := following 3 7 6 0
    a.ctxA.mode = .follow ∧ a.anchor = some 0 ∧ 1 ≤ a.ctxA.den ∧ (sampleAt 8 0 0).feed = true ∧ a.ctxA.oSlew = 0
    ∧ (0 < ({ a.ctxA with oSlew := 1, tSlew := 1 } : AxisContext).oSlew) := by decide +kernel
theorem witness_StepTableOfABoundary : Axis.reset.ctxA.mode = .off ∧ (following 3 7 0 0).ctxA.mode ≠ .off
    ∧ (following 3 7 0 0).anchor ≠ none ∧ ({ following 3 7 0 0 with anchor := none } : Axis).anchor = none
    ∧ 1 ≤ (following 3 7 0 0).ctxA.den ∧ (sampleAt 8 0 0).feed = true
    ∧ ({ sampleAt 8 0 0 with feed := false } : Sample).feed = false
    ∧ (following 3 7 0 0).ctxA.mode = .follow ∧ (following 3 7 0 0).ctxA.oSlew = 0
    ∧ 0 < ({ (following 3 7 0 0).ctxA with oSlew := 1, tSlew := 1 } : AxisContext).tSlew
    ∧ (let s : State := { follower with axe := { AxisEngine.reset with
          commit := 0x80, rePhase := 0x01, axes := AxisEngine.reset.axes.set 7 { Axis.reset with ctxB := (following 3 7 0 0).ctxA } } }
      ((14 : Word).toNat % 7 = 0 ∧ (s.lu.sample (14 - 1)).isSome ∧ (s.lu.sample 14).isSome ∧ s.axe.commit.getLsbD 7 = true)
      ∧ (let u : State := { s with ctn := { s.ctn with fol := { s.ctn.fol with superLen := 7 } } }
        let t := u.computeEvent 14
        (t.axe.rePhase, t.axe.commit, (t.axe.axes.get 7).prepared.map PreparedStep.kind, t.axe.back.isSome)
          = (0, 0, some StepKind.engage, true))) := by decide +kernel
theorem witness_PublicationPutsTheBackSetInForce :
    ({ AxisEngine.reset with back := some (Tab.const 8 SetpointRecord.reset) } : AxisEngine).back
      = some (Tab.const 8 SetpointRecord.reset)
    ∧ ((Tab.const 8 SetpointRecord.reset).get 0).boundary = 0 ∧ ((Tab.const 8 SetpointRecord.reset).get 0).boundary ≠ 1
    ∧ follower.axe.back = none ∧ ((follower.axe.axes.get 0).prepared = none) := by decide +kernel

/-! ### The queue and the ports -/

theorem witness_StepRunsTheFrontCommand :
    ({ follower with pending := [.localBoundary, .start .drive] } : State).pending = .localBoundary :: [.start .drive]
    ∧ follower.pending = [] ∧ follower.hold = none ∧ (follower.serial .drive).tr.state ∉ [.turnaround, .response]
    ∧ (let tr (n : Nat) : Transaction := ⟨true, .turnaround, some 1, false, some .ok, 0, n, none, [0x00]⟩
      ((tr 0).state = .turnaround ∧ (tr 0).turned = 0 ∧ (tr 1).turned = 1)
      ∧ ({ tr 0 with state := .response } : Transaction).state = .response) := by decide +kernel
theorem witness_EveryCommandAnswersAndSettingsStay : Instr.localBoundary ≠ .powerOnReset ∧ Instr.localBoundary ≠ .resetPin
    ∧ (∀ p x, Instr.localBoundary ≠ .configureNode p x) := ⟨by decide, by decide, fun _ _ h => nomatch h⟩
theorem witness_RefusedDeniedAndUnreadyCommands :
    portCode (.start .panel) = some (.panel, 0x22) ∧ portCode (.start .drive) = some (.drive, 0x22)
    ∧ ({ follower with hold := some .pin } : State).hold ≠ none
    ∧ (follower.serial .panel).tr.ready 0x22 = true ∧ permitted .panel 0x22 = false ∧ permitted .drive 0x45 = false
    ∧ follower.Arrives .drive 0x22 := by unfold State.Arrives; decide +kernel
theorem witness_HeldInResetAndPassive : ({ idle with hold := some .power } : State).hold ≠ none ∧ idle.hold = none
    ∧ idle.ctn.state = .passive ∧ follower.hold = none
    ∧ (reset.hold = none ∧ reset.ctn.state ≠ .passive ∧ reset.discards .a = true) := by decide +kernel
def inData (code : Byte) : State := { follower with panel := { follower.panel with
  tr := ⟨true, .data, some code, false, none, 255, 0, none, []⟩ } }
theorem witness_TransactionEventsMoveTheRecord : follower.hold = none ∧ (follower.serial .panel).tr.state = .idle
    ∧ (follower.serial .panel).tr.select = false
    ∧ ({ follower.panel with tr := { follower.panel.tr with state := .command } } : Serial).tr.state = .command
    ∧ parameterless 0x20 = false ∧ ((0x20 : Byte).toNat ≤ 0x31) ∧ ¬ (0x54 : Byte).toNat ≤ 0x53 ∧ ¬ 0x01 ≤ (0 : Byte).toNat
    ∧ (((inData 0x45).serial .panel).tr.state = .data ∧ ((inData 0x45).serial .panel).tr.denied = false
      ∧ ((inData 0x45).serial .panel).tr.command = some 0x45 ∧ ((inData 0x4E).serial .panel).tr.command = some 0x4E
      ∧ (inData 0x4E).teu.posting = none ∧ (inData 0x4E).pse.grant = none
      ∧ ({ (inData 0x45).pse with writing := some ⟨15, .ok, 3⟩ } : PacketStore).writing = some ⟨15, .ok, 3⟩
      ∧ ({ (inData 0x4E).teu with posting := some ⟨2, 3, 4, true, 2, [1], false⟩ } : TileUnit).posting.isSome) := by decide +kernel
theorem witness_PowerOnResetPinAndResetEnd : idle.hold ≠ some .power ∧ ({ idle with hold := some .power } : State).hold = some .power
    ∧ ({ idle with hold := some .pin } : State).hold = some .pin ∧ idle.ctn.state = .passive := by decide +kernel
theorem witness_SoftResetTakesItsValues : (follower.Arrives .panel 0x0A ∧ follower.ctn.state = .run)
    ∧ ((inState .joining).Arrives .drive 0x0A ∧ (inState .joining).ctn.state ≠ .run
      ∧ (inState .joining).ctn.config.role ≠ .line)
    ∧ (lineNode.Arrives .drive 0x0A ∧ lineNode.ctn.state ≠ .run ∧ lineNode.lineState = some .halt) := by
  unfold State.Arrives; decide +kernel
theorem witness_ReportsChangeNothing : follower.Arrives .panel 0x07 ∧ follower.Arrives .drive 0x08 ∧ follower.Arrives .panel 0x0B
    ∧ follower.Arrives .panel 0x41 ∧ follower.Arrives .drive 0x09 ∧ follower.Arrives .drive 0x2C ∧ follower.Arrives .panel 0x4B
    ∧ ¬ (1 ≤ (49 : Byte).toNat ∧ (49 : Byte).toNat ≤ 48) ∧ (2 : Byte) = follower.ctn.config.address
    ∧ (48 : Byte).toNat = (47 : Fin 48).val + 1 ∧ (48 : Byte) ≠ follower.ctn.config.address ∧ 8 ≤ (8 : Byte).toNat
    ∧ (7 : Byte).toNat = (7 : Fin 8).val ∧ 32 ≤ (32 : Byte).toNat ∧ (31 : Byte).toNat = (31 : Fin 32).val
    ∧ follower.pse.records.get 31 = none
    ∧ after (.readStripData .panel 31 0 0) follower (fun t => t.panel.tr.status) = some (some .range) := by
  unfold State.Arrives; decide +kernel
theorem witness_ReportsThatClearWhatTheyReturn : follower.Arrives .drive 0x01 ∧ follower.Arrives .panel 0x02
    ∧ follower.Arrives .drive 0x2D ∧ follower.Arrives .panel 0x4A ∧ follower.Arrives .panel 0x51 ∧ follower.Arrives .panel 0x53
    ∧ 1 ≤ follower.ctn.limits.driveRead := by unfold State.Arrives; decide +kernel
theorem witness_SettingsAreWrittenWholeOrRefused : follower.Arrives .panel 0x03 ∧ follower.Arrives .drive 0x2E
    ∧ follower.Arrives .drive 0x30 ∧ follower.Arrives .drive 0x26 ∧ follower.Arrives .drive 0x31 ∧ follower.Arrives .panel 0x40
    ∧ follower.Arrives .panel 0x43 ∧ follower.Arrives .panel 0x4D := by unfold State.Arrives; decide +kernel
theorem witness_SettingsAreWrittenWholeOrRefused_states :
    (follower.ctn.config.role ≠ .line ∧ lineNode.ctn.config.role = .line ∧ lineNode.lu.target = 0
      ∧ ({ lineNode.lu with target := 1 } : LineUnit).target ≠ 0)
    ∧ (follower.ctn.state ∉ [.passive, .joining] ∧ (inState .joining).Arrives .drive 0x31
      ∧ (inState .joining).ctn.state ∈ [.passive, .joining] ∧ (inState .joining).tru.locked = false)
    ∧ ((∀ h : Fin 16, (follower.pse.descriptors.get h).strip.isNone) ∧ (∀ k : Fin 32, (follower.pse.records.get k).isNone)
      ∧ ((stored (stripOf 1 .queued)).pse.descriptors.get 15).strip.isSome) := by unfold State.Arrives; decide +kernel
theorem witness_SettingsAreWrittenWholeOrRefused_values :
    ((0x7FFFFFFF : Word).toNat < 2 ^ 31 ∧ (0x1000000 : Word).toNat ≤ 2 ^ 24 ∧ ¬ 1 ≤ (0 : Word).toNat)
    ∧ (let l : TimingLimitParams := ⟨8, 15, 4095, 16, 1, 0⟩
      8 ≤ l.window.toNat ∧ l.window.toNat ≤ 1024 ∧ 1 ≤ l.holdover.toNat ∧ l.holdover.toNat ≤ 15 ∧ l.returnMargin.toNat ≤ 4095
      ∧ 1 ≤ l.driveRead.toNat ∧ l.driveRead.toNat ≤ 16 ∧ 1 ≤ l.degrade.toNat)
    ∧ ((3 : Byte).toNat = (3 : Fin 4).val ∧ 125 ≤ (125 : Half).toNat ∧ ¬ (4 : Byte).toNat ≤ 3)
    ∧ (let q : PoolParams := ⟨8192, 2048, 0, 65535, 1⟩
      q.stripQuota.toNat ≤ 8192 ∧ q.tileReserve.toNat ≤ 2048 ∧ q.gap ≠ 0) := by decide +kernel

/-! ### Chapters 6 to 8 -/

/-- The follower with a quiet fibre and trip unit, its entries and filters as given. -/
def guarded (es : Tab (Option TripEntry) 32) (fs : Tab InputFilter 4) : State := { follower with
  fpf := { follower.fpf with a := { follower.fpf.a with published := 0 }, b := { follower.fpf.b with published := 0 } }
  tru := { TripUnit.reset with entries := es, filters := fs } }
def quiet : State := guarded TripUnit.defaultEntries (Tab.const 4 InputFilter.reset)
/-- The laws of R105 to R119, as the finite checks they come to. -/
theorem trip_law_of {s : State} (h1 : ∀ i, s.tru.active.get i = s.sourceActive i)
    (h2 : ∀ k, (s.tru.entries.get k).all (fun e => decide (1 ≤ e.cls ∧ e.cls ≤ 3)
      && (e.mode != .latched || !s.sourceActive e.source || e.latch)
      && (e.mode != .following || e.latch == s.sourceActive e.source)) = true)
    (h3 : ∀ j k, ((s.tru.entries.get j).map TripEntry.source = (s.tru.entries.get k).map TripEntry.source
      ∧ (s.tru.entries.get j).isSome) → j = k)
    (h4 : s.tru.effective = s.tru.classIn s.ctn.config.address s.ctn.config.membership) : s.TripLaw := by
  refine ⟨h1, fun k e he => ?_, fun j k e f hj hk hs => h3 j k ⟨by rw [hj, hk]; simp [hs], by rw [hj]; rfl⟩, h4⟩
  have h := h2 k
  rw [he] at h
  cases hm : e.mode <;> cases hl : e.latch <;> cases ha : s.sourceActive e.source <;> simp_all
theorem quiet_trip_law : quiet.TripLaw :=
  by apply trip_law_of <;> decide +kernel
theorem witness_TripLawKept : quiet.TripLaw ∧ ∃ t, exec (.raiseTrip .panel 0) quiet = .next t := ⟨quiet_trip_law, _, rfl⟩
/-- Input 0 has just gone active, its filter time running. -/
def rising : State := guarded TripUnit.defaultEntries ((Tab.const 4 InputFilter.reset).set 0 ⟨20, true, false, 900⟩)
theorem rising_trip_law : rising.TripLaw := by apply trip_law_of <;> decide +kernel
theorem witness_SourcesLatchTheirEntries : quiet.TripLaw ∧ rising.TripLaw ∧ quiet.hold = none ∧ rising.hold = none
    ∧ quiet.Arrives .panel 0x04 ∧ quiet.Arrives .drive 0x05 ∧ 7 < (8 : Byte).toNat ∧ (7 : Byte).toNat ≤ 7
    ∧ quiet.tru.panelCodes.getLsbD 7 = false ∧ quiet.ctn.state ∈ [.aligned, .run]
    ∧ (rising.tru.filters.get 0).filtered ≠ (rising.tru.filters.get 0).level ∧ 0 < (quiet.tru.filters.get 3).time
    ∧ (quiet.tru.filters.get 3).level ≠ true
    ∧ (∀ q : FibrePort, (quiet.fibre q).link = .locked ∧ (quiet.fibre q).tx.isNone ∧ (quiet.fibre q).waiting = []) := by
  refine ⟨quiet_trip_law, rising_trip_law, ?_⟩
  unfold State.Arrives
  and_intros <;> first | decide +kernel | (intro q; cases q <;> decide +kernel)
/-- A node in ALIGNED whose entries 1 (LINE_LOST, LATCHED) and 31 (panel code 0) are latched, their sources inactive. -/
def tripped : State := { guarded ((TripUnit.defaultEntries.set 1 (some ⟨21, 2, 0xFFFF, .latched, true⟩)).set 31
    (some ⟨12, 3, 1, .latched, true⟩)) (Tab.const 4 InputFilter.reset) with
  ctn := { follower.ctn with state := .aligned } }
def tripped' : State := { tripped with tru := { tripped.tru with effective := 2 } }
theorem tripped_trip_law : tripped'.TripLaw :=
  by apply trip_law_of <;> decide +kernel
theorem witness_TripTableWriteAndReset : tripped'.TripLaw ∧ tripped'.Arrives .drive 0x2F ∧ tripped'.Arrives .panel 0x06
    ∧ tripped'.tru.locked = false ∧ tripped'.ctn.state ≠ .run ∧ quiet.TripLaw ∧ quiet.Arrives .drive 0x2F ∧ quiet.tru.locked = false
    ∧ quiet.ctn.state = .run ∧ (32 : Byte).toNat > 31
    ∧ ((0xFFFFFFFF : Word).getLsbD 31 = true ∧ (tripped'.tru.entries.get 31).all TripEntry.latch = true
      ∧ tripped'.sourceActive 12 = false ∧ tripped'.sourceActive 21 = false)
    ∧ (tripped'.tru.entries.get 30).isNone ∧ ((25 : Byte).toNat ≤ 25 ∧ (255 : Byte).toNat ≤ 255)
    ∧ (∀ k, (tripped'.tru.entries.get k).all (fun x => x.source.val != 19) = true)
    ∧ (tripped'.tru.entries.get 0).all (fun x => x.source.val == 0) = true := by
  unfold State.Arrives
  refine ⟨tripped_trip_law, ?_, ?_, ?_, ?_, quiet_trip_law, ?_⟩ <;> decide +kernel
/-- The node in ALIGNED with panel code 7, which no entry watches, raised. -/
def raised : State := { quiet with
  ctn := (inState .aligned).ctn
  tru := { quiet.tru with panelCodes := 0x80, active := (Tab.const 26 false).set 19 true } }
theorem raised_trip_law : raised.TripLaw := by apply trip_law_of <;> decide +kernel
theorem witness_a_written_entry_is_announced : raised.TripLaw ∧ raised.Arrives .drive 0x2F ∧ raised.sourceActive 19 = true
    ∧ raised.tru.locked = false ∧ raised.ctn.state = .aligned ∧ (raised.tru.entries.get 31).isNone
    ∧ (∀ q : FibrePort, (raised.fibre q).link = .locked ∧ (raised.fibre q).tx.isNone ∧ (raised.fibre q).waiting = [])
    ∧ after (.writeTripEntry .drive ⟨31, 19, 2, 0x00FF, 0, 0⟩) raised (fun t =>
        (t.fpf.a.tx.map fun y => y.out.frame, t.fpf.b.tx.map fun y => y.out.origin))
      = some (some ⟨0xFF, 2, 14, 3, 0, .trip ⟨2, 1, 2, 19, 0x00FF, 13⟩⟩, some .ownTrip) := by
  refine ⟨raised_trip_law, ?_⟩
  unfold State.Arrives
  and_intros <;> first | decide +kernel | (intro q; cases q <;> decide +kernel)
theorem witness_RemoteTripsAreRaisedAndReplaced :
    (let x : TripBody := ⟨48, 32767, 3, 12, 1, 13⟩
    let f : Frame := ⟨0xFF, 48, 14, 0x03, 0, .trip x⟩
    let s : State := { follower with
      tru := { TripUnit.reset with remote := (Tab.const 48 none).set 47 (some ⟨2, 1, 0, 0, 12, true⟩) } };
    s.hold = none ∧ (s.fibre .a).link = .locked ∧ s.ctn.state ≠ .passive ∧ s.discards .a = false ∧ f.wfOf Kind.trip
    ∧ f.body = .trip x
    ∧ 1 ≤ x.cls.toNat ∧ x.cls.toNat ≤ 3 ∧ f.source ≠ s.ctn.config.address ∧ f.source.toNat = (47 : Fin 48).val + 1
    ∧ (s.tru.remote.get 47).all (fun y => 1 ≤ (x.seq - y.seq).toNat && (x.seq - y.seq).toNat ≤ 32767) = true
    ∧ ¬ (1 ≤ ({ x with cls := 0 } : TripBody).cls.toNat ∧ ({ x with cls := 0 } : TripBody).cls.toNat ≤ 3))
    ∧ (({ blank 3 with tripClass := 3 } : Section).tripClass.toNat ≤ 3 ∧ (32767 < ((0 : Half) - 1).toNat)
      ∧ (2 ≤ ((14 : Word) - 12).toInt) ∧ ((13 : Word) - 12).toInt < 2) := by decide +kernel
/-- Camera line 3 with one pulse before its start, and with it begun. -/
def pulsing (begun : Bool) : State := { follower with tgu := { TriggerUnit.reset with
  lines := (Tab.const 4 ⟨1250, []⟩).set 3 ⟨1250, [⟨1200, 1250, (stampOf 9).content, begun⟩]⟩ } }
theorem witness_TriggerEntryWriteAndPulses : follower.Arrives .panel 0x40
    ∧ (let t : TriggerParams := ⟨15, 1, 1, 0xFFFFFFFF, 3, 65535, 65534, 500001, 0xFF, 3⟩
      t.index.toNat ≤ 15 ∧ t.enabled.toNat ≤ 1 ∧ t.mode.toNat ≤ 1 ∧ t.line.toNat ≤ 3 ∧ 1 ≤ t.everyNth.toNat
      ∧ t.phase.toNat < t.everyNth.toNat ∧ 1 ≤ t.threshold.toNat ∧ t.threshold.toNat ≤ 3)
    ∧ (follower.hold = none ∧ ((pulsing false).tgu.lines.get 3).schedule = [⟨1200, 1250, (stampOf 9).content, false⟩]
      ∧ ((pulsing true).tgu.lines.get 3).schedule.find? Pulse.begun = some ⟨1200, 1250, (stampOf 9).content, true⟩) := by
  unfold State.Arrives; decide +kernel
theorem witness_FiringsBecomePulses :
    (let t := entryAt 5 3 1;
      1 ≤ t.everyNth ∧ (0 : Nat) < 5 ∧ (5 : Int) ≤ 5 ∧ (5 : Int) < 2 ^ 32 ∧ ((0 : Pos) + BitVec.ofNat 48 5).truncate 32 = t.angle)
    ∧ (follower.lu.sample 13).isSome ∧ (follower.lu.sample 14).isSome ∧ follower.lu.sample 15 = none
    ∧ (entryAt 5 3 1).enabled = true ∧ (entryAt 5 3 1).mode = .angle ∧ Trigger.reset.enabled = false
    ∧ ({ entryAt 5 3 1 with mode := .onTrip, mark := .due } : Trigger).mark = .due
    ∧ ((pulsing true).tgu.lines.get 3).schedule.length < 32 := by decide +kernel
theorem witness_MarksMoveTheTrimTarget :
    (let s := marked (-600) 41 101 102;
      s.Arrives .panel 0x42 ∧ s.Arrives .drive 0x2B ∧ (2 : Byte).toNat = (2 : Fin 8).val ∧ 8 ≤ (8 : Byte).toNat) := by
  unfold State.Arrives; decide +kernel

/-! ### Chapter 9 -/

/-- The follower with one stamp and a strip in descriptor 15, the port of Write Strip Data in its data phase. -/
def appending (x : Strip) : State := { stored x with
  tgu := { TriggerUnit.reset with stamps := [stampOf 9] }
  panel := { follower.panel with tr := ⟨true, .data, some 0x45, false, none, 0, 0, none, []⟩ }
  pse := { (stored x).pse with writing := some ⟨15, .ok, 0⟩ } }
def opened (n k : Nat) : Strip := { stripOf n .opened with data := List.replicate k 0, pages := (k + 255) / 256 }
theorem witness_StripsAreOpenedAndWritten :
    (let s : State := { stored (opened 2 1) with tgu := { TriggerUnit.reset with stamps := [stampOf 9] } };
      s.Arrives .panel 0x44 ∧ (1 : Byte).toNat ≤ 1 ∧ (262144 : Word).toNat ≤ 262144 ∧ s.tgu.stamps.find? (fun x => x.id == 9)
        = some (stampOf 9) ∧ (stampOf 9).claimed = false ∧ (s.pse.descriptors.get 0).strip.isNone
      ∧ s.Arrives .panel 0x45 ∧ (s.pse.descriptors.get 15).strip = some (opened 2 1)
      ∧ (s.pse.descriptors.get 14).strip.isNone ∧ 15 < (16 : Byte).toNat)
    ∧ (let s := appending (opened 257 256);
      s.hold = none ∧ (s.serial .panel).tr.state = .data ∧ (s.serial .panel).tr.command = some 0x45
      ∧ (s.serial .panel).tr.denied = false ∧ s.pse.writing = some ⟨15, .ok, 0⟩
      ∧ (s.pse.descriptors.get 15).strip = some (opened 257 256)
      ∧ s.stripPages + 1 ≤ s.pse.quota ∧ s.pse.reserve + 1 ≤ s.freePages) := by unfold State.Arrives; decide +kernel
theorem witness_StripsAreClosedHeldAndCancelled :
    (let s := stored (opened 2 1);
      s.pse.grant = none ∧ s.Arrives .panel 0x46 ∧ s.Arrives .panel 0x47 ∧ s.Arrives .panel 0x48 ∧ s.Arrives .panel 0x49
      ∧ s.Arrives .panel 0x4C ∧ (15 : Fin 16).val = (15 : Byte).toNat ∧ 15 < (16 : Byte).toNat ∧ (s.pse.descriptors.get 0).strip = none
      ∧ (s.pse.descriptors.get 15).strip = some (opened 2 1) ∧ (opened 2 1).state = .opened ∧ (opened 2 1).data ≠ []
      ∧ s.isConsole = false ∧ s.pse.records.get 31 = none ∧ 31 < (32 : Byte).toNat)
    ∧ (let s : State := { sending (.ownFragment 15 7 false false) [] with pse := (stored (stripOf 1024 .sending)).pse };
      (s.pse.descriptors.get 15).strip = some (stripOf 1024 .sending)
      ∧ (s.fibre .b).tx.all (fun y => y.out.origin == .ownFragment 15 7 false false) = true ∧ (stripOf 1024 .sending).pending = .none
      ∧ (stripOf 1024 .held).state = .held ∧ (15 : Fin 16) ∉ s.pse.order)
    ∧ (let s : State := { stored (opened 2 1) with
        ctn := { follower.ctn with
          config := { follower.ctn.config with console := 2 }, fol := { follower.ctn.fol with console := 2 } } };
      s.isConsole = true) := by
  unfold State.Arrives; decide +kernel
theorem witness_FragmentsAssembleAndReturn : follower.hold = none ∧ (follower.fibre .a).link = .locked
    ∧ follower.ctn.state ≠ .passive ∧ follower.discards .a = false
    ∧ (fragF.wfOf Kind.fragment ∧ fragF.body = .fragment fragmentBody
      ∧ fragmentBody.payloadLength.toNat = fragmentBody.payload.length ∧ fragF.dest = follower.ctn.config.address
      ∧ fragF.source ≠ follower.ctn.config.address ∧ fragmentBody.offset = 0 ∧ follower.pse.records.get 0 = none
      ∧ follower.stripPages + 1 ≤ follower.pse.quota ∧ follower.pse.reserve + 1 ≤ follower.freePages)
    ∧ (let r : StripRecord := ⟨1, 7, stampOf 0, 1, [], .assembling, 13, 0⟩
      let u : PacketStore := { PacketStore.reset with records := (Tab.const 32 none).set 31 (some r) };
      u.records.get 31 = some r ∧ r.source = fragF.source ∧ r.stripId = fragmentBody.stripId ∧ r.state = .assembling
      ∧ fragmentBody.offset.toNat = r.data.length ∧ r.data.length + fragmentBody.payload.length ≤ r.declared)
    ∧ (tileF.wfOf Kind.tile ∧ tileF.body = .tile ⟨4, 1, 1, 0, 1, [0xAA]⟩)
    ∧ (let f : Frame := { fragF with dest := 3, source := 2 };
      f.wfOf Kind.fragment ∧ f.source = follower.ctn.config.address ∧ f.dest ≠ 0xFF
      ∧ fragmentBody.handle.toNat = (0 : Fin 16).val ∧ follower.pse.grant = none
      ∧ ((stored (stripOf 1 .sending)).pse.descriptors.get 15).strip.all (fun z => z.id == fragmentBody.stripId) = true) := by
  decide +kernel
/-- The follower before its async window, a strip QUEUED and a grant in hand. -/
def granted : State := { stored (stripOf 3 .queued) with
  ctn := { follower.ctn with
    window := .before, config := { follower.ctn.config with code := 8, console := 3 }
    fol := { follower.ctn.fol with console := 3 } }
  pse := { (stored (stripOf 3 .queued)).pse with order := [15], grant := some ⟨13, 0, 43, false, false⟩ } }
/-- The console before its async window, a tile WAITING and a grant in hand. -/
def tiling : State := { granted with
  ctn := { granted.ctn with
    config := { granted.ctn.config with console := 2 }, fol := { granted.ctn.fol with console := 2 } }
  pse := { PacketStore.reset with grant := some ⟨13, 41, 0, false, false⟩ }
  teu := { TileUnit.reset with out := [⟨3, 15, 1023, false, [0xAA], 1, 0, none⟩] } }
theorem witness_AsyncWindowOpensAndCloses :
    (let s := granted;
      s.hold = none ∧ s.ctn.boundary = some 1000 ∧ s.ctn.state ∈ [.aligned, .run] ∧ s.ctn.window = .before
      ∧ 2 * s.delay + (86 + 20 * s.ctn.plan.length) + 532 + 256 < s.cycleTicks
      ∧ s.pse.grant = some ⟨13, 0, 43, false, false⟩ ∧ s.ctn.cycle = 13 ∧ s.pse.offer = none ∧ s.pse.order = [15]
      ∧ s.strip 15 = some (stripOf 3 .queued) ∧ s.isConsole = false ∧ s.console ≠ 0 ∧ s.routeTo s.console = Route.a
      ∧ (s.fibre .a).link = .locked ∧ (s.fibre .a).tx = none ∧ (s.fibre .b).tx = none ∧ (s.fibre .a).waiting = []
      ∧ (((stripOf 3 .queued).data.drop (stripOf 3 .queued).sent).take 1024).length + 40 ≤ 43)
    ∧ (let s := tiling;
      s.pse.grant = some ⟨13, 41, 0, false, false⟩ ∧ s.isConsole = true ∧ s.teu.posting = none ∧ s.routeTo 3 = Route.a
      ∧ (s.fibre .a).tx = none ∧ (s.fibre .b).tx = none ∧ (s.fibre .a).waiting = [])
    ∧ (let s : State := { granted with ctn := { granted.ctn with window := .inside } };
      s.hold = none ∧ s.ctn.window = .inside) := by decide +kernel
/-- A console with a broadcast entry: before its first frame, with its row settled, and before its second frame, on a broken ring. -/
def broadcasting (started : Nat) (row : Option BroadcastRow) : State := { tiling with
  ctn := { tiling.ctn with breakIx := some (.after 1) }
  teu := { tiling.teu with out := [⟨0xFF, 15, 1023, true, [0xAA], 1, started, row⟩], firstDue := true } }
theorem witness_AsyncWindowOpensAndCloses_broadcasts :
    (let s := broadcasting 0 none;
      s.hold = none ∧ s.ctn.boundary = some 1000 ∧ s.ctn.state ∈ [.aligned, .run] ∧ s.ctn.window = .before
      ∧ 2 * s.delay + (86 + 20 * s.ctn.plan.length) + 532 + 256 < s.cycleTicks
      ∧ s.pse.grant = some ⟨13, 41, 0, false, false⟩ ∧ s.pse.offer = none ∧ s.isConsole = true ∧ s.teu.posting = none
      ∧ 0 ≤ ((1000 + BitVec.ofNat 32 (s.cycleTicks - (s.delay + 532 + 256)) : Word)
        - ((s.reach (1000 + BitVec.ofNat 32 (s.delay + (86 + 20 * 3)))).tick + BitVec.ofNat 32 21)).toInt
      ∧ (s.fibre .a).link = .locked ∧ (s.fibre .a).tx = none ∧ (s.fibre .a).waiting = []
      ∧ (s.fibre .b).link = .locked ∧ (s.fibre .b).tx = none ∧ (s.fibre .b).waiting = [])
    ∧ (broadcasting 0 (some ⟨9, true, true⟩)).teu.out.all (fun e => e.started == 0 && e.row == some ⟨9, true, true⟩) = true
    ∧ (broadcasting 1 (some ⟨9, true, true⟩)).teu.out.all (fun e => e.started == 1 && e.row == some ⟨9, true, true⟩) = true
    ∧ (let frame (p : FibrePort) (t : State) := (t.fibre p).tx.map fun x => (x.out.frame.flags, match x.out.frame.body with
        | .tile b => b.broadcastSeq
        | _ => 0)
      after .asyncWindowOpen (broadcasting 0 none) (frame .a) = some (some (0x03, 1))
      ∧ after .asyncWindowOpen (broadcasting 1 (some ⟨9, true, true⟩)) (frame .b) = some (some (0x01, 9))) := by decide +kernel
theorem witness_GrantTablesKeepTheBudget : granting.ctn.plan.Nodup ∧ granting.pse.tileCap ≤ 65535
    ∧ granting.pse.stripCap ≤ 65535
    ∧ (granting.ctn.plan.drop granting.pse.rotate ++ granting.ctn.plan.take granting.pse.rotate).head? = some 25
    ∧ addressIndex 25 = some 24 ∧ (granting.cfe.table.get 24).isSome
    ∧ (lineNode.hold = none ∧ lineNode.ctn.config.role = .line ∧ lineNode.ctn.state ∈ [.aligned, .run]
      ∧ lineNode.ctn.boundary ≠ none ∧ lineNode.ctn.line.restartAsked = false ∧ lineNode.ctn.line.keptA = none
      ∧ ({ lineNode.ctn.line with keptA := some ⟨0, false, cycleB⟩ } : LineTiming).keptA ≠ none) := by decide +kernel

/-! ### Chapter 10 -/

def posting (n : Nat) : State := { tiling with
  pse := PacketStore.reset
  panel := { tiling.panel with tr := ⟨true, .data, some 0x4E, false, none, 0, 0, none, []⟩ }
  teu := { tiling.teu with posting := some ⟨3, 15, 1023, true, 2, List.replicate n 0, true⟩ } }
theorem witness_TilesArePosted :
    (let s : State := { tiling with pse := PacketStore.reset };
      s.pse.grant = none ∧ s.Arrives .panel 0x4E ∧ s.teu.posting = none ∧ s.isConsole = true
      ∧ (48 : Byte).toNat ≤ 48 ∧ (15 : Byte).toNat ≤ 15 ∧ (1023 : Half).toNat ≤ 1023 ∧ (1024 : Half).toNat ≤ 1024
      ∧ (1024 + 255) / 256 ≤ s.freePages ∧ s.teu.out.length < 64)
    ∧ (follower.Arrives .panel 0x4E ∧ follower.isConsole = false)
    ∧ ((posting 0).hold = none ∧ ((posting 0).serial .panel).tr.state = .data ∧ ((posting 0).serial .panel).tr.command = some 0x4E
      ∧ ((posting 0).serial .panel).tr.denied = false ∧ (posting 0).teu.posting.all (fun x => x.got.length + 1 < x.length) = true
      ∧ (posting 1).teu.posting.all (fun x => x.length == x.got.length + 1 && x.dest != (posting 1).ctn.config.address) = true
      ∧ (posting 1).teu.out.all (fun e => e.started == 0 && e.dest == 3 && e.screen == 15 && e.index == 1023) = true) := by
  unfold State.Arrives; decide +kernel
/-- The follower with incoming tiles, the first FETCHED or not. -/
def fetching (fetched : Bool) : State := { follower with
  teu := { TileUnit.reset with incoming := [⟨4, 9, false, 1, [0], fetched⟩], lastBroadcast := some 700 } }
theorem fetching_law (b : Bool) : (fetching b).StoreLaw := by
  have one : ∀ j : Nat, ∀ e, (fetching b).teu.incoming[j]? = some e → j = 0 := by
    intro j e h
    cases j with
    | zero => rfl
    | succ n => exact nomatch h
  refine ⟨?_, ?_, ?_, ?_, ?_, ?_, ?_⟩
  · cases b <;> decide +kernel
  · intro h hm; exact nomatch hm
  · intro j k e f h; exact nomatch h
  · intro j k e f hj hk _ _ _; rw [one j e hj, one k f hk]
  · intro e he; exact nomatch he
  · intro h; exact (h rfl).elim
  · intro _ _; exact Or.inl rfl
theorem witness_TilesArriveAndAreFetched :
    (let x : TileBody := ⟨4, 1, 1, 701, 1, [0xAA]⟩
      let f : Frame := ⟨0xFF, 1, 33, 0x05, 0, .tile x⟩
      let s := fetching false;
      s.hold = none ∧ (s.fibre .a).link = .locked ∧ s.ctn.state ≠ .passive ∧ s.discards .a = false ∧ f.wfOf Kind.tile
      ∧ f.body = .tile x
      ∧ x.coded f.length.toNat = true ∧ f.source ≠ s.ctn.config.address ∧ (1 ≤ (x.broadcastSeq - 700).toNat)
      ∧ tileF.dest = s.ctn.config.address)
    ∧ (fetching true).StoreLaw ∧ (fetching false).StoreLaw
    ∧ (fetching true).Arrives .panel 0x50 ∧ (fetching false).Arrives .panel 0x4F ∧ (fetching false).Arrives .panel 0x52
    ∧ (3 : Byte).toNat ≤ 3 ∧ ¬ (4 : Byte).toNat ≤ 3 := by
  refine ⟨by decide +kernel, fetching_law true, fetching_law false, ?_⟩
  unfold State.Arrives; decide +kernel
theorem witness_StoreLawKept : (fetching false).StoreLaw ∧ ∃ t, exec (.fetchTile .panel) (fetching false) = .next t :=
  ⟨fetching_law false, _, rfl⟩
theorem witness_SizeLawKept : (Instr.localBoundary).wf = true ∧ follower.SizeLaw ∧ ∃ t, exec .localBoundary follower = .next t := by
  refine ⟨rfl, ?_, _, rfl⟩
  unfold State.SizeLaw
  and_intros <;> first
    | decide +kernel
    | (intro p; cases p <;> decide +kernel)
    | (intro p r w h; cases p <;> cases h)

/-! ## Single commands -/

/-- R1: the 64th valid idle locks the port. -/
theorem test_the_64th_idle_locks : after (.validIdleReceived .a) { idle with fpf := { lockedPorts with a := acq 63 } } (fun t => (t.fpf.a.link, t.fpf.a.lockErrors))
    = some (.locked, 0) := by decide +kernel
/-- R1, R19: loss of light. -/
theorem test_light_lost : after (.lightLost .b) idle (fun t => (t.fpf.b.link, t.fpf.b.errors, t.fpf.a.link))
    = some (.dark, 255, .locked) := by decide +kernel
/-- R107, R109, R119: a drive code latches no entry of the default table; entry 0 latches for input 0. -/
theorem test_input_0_latches_entry_0 : after (.filterTimeElapsed 0) rising (fun t =>
    ((t.tru.entries.get 0).map TripEntry.latch, t.tru.effective, t.tru.seq)) = some (some true, 1, 1) := by decide +kernel
/-- R112: Reset Trip clears the latch of an entry whose source is inactive. -/
theorem test_reset_trip : after (.resetTrip .panel 0x80000000) tripped' (fun t =>
    ((t.tru.entries.get 31).map TripEntry.latch, (t.tru.entries.get 1).map TripEntry.latch, t.panel.tr.response))
    = some (some false, some true, [0x00, 0, 0, 0, 0x02]) := by decide +kernel
/-- R175, R24: NOT_NOW is code 0x03 out of PASSIVE and JOINING. -/
theorem test_configure_in_run : after (.configureNode .drive ⟨5, 1, 1, 8, 8, 0, 0⟩) follower (fun t =>
    (t.drive.tr.status, t.ctn.config.address)) = some (some .notNow, 2) := by decide +kernel
/-- R148: the handle and strip id of the response. -/
theorem test_open_strip : after (.openStrip .panel 9 2 0) { follower with tgu := { TriggerUnit.reset with stamps := [stampOf 9] } }
    (fun t => t.panel.tr.response) = some [0x00, 0, 0, 0] := by decide +kernel
/-- R12, R14, R155: a TRIP frame presented at the instant at which a fragment starts leaves in its place; the strip is QUEUED again. -/
theorem test_a_trip_frame_goes_before_a_fragment_that_starts : (after .asyncWindowOpen granted id).bind (fun s =>
      (after (.frameHeaderReceived .b (s.tick - 3) (some tripF)) s fun t => (s.fpf.a.tx.map (fun x => x.out.frame.kind),
        t.fpf.a.tx.map (fun x => x.out.frame), (t.strip 15).map (fun x => (x.state.code, x.sent)), t.pse.grant.map Grant.strip)))
    = some (some 0x04, some tripF, some (2, 0), some 43) := by decide +kernel
/-- R12, R14, R165: the same of a tile. -/
theorem test_a_trip_frame_goes_before_a_tile_that_starts : (after .asyncWindowOpen tiling id).bind (fun s =>
      (after (.frameHeaderReceived .b (s.tick - 3) (some tripF)) s fun t => (s.fpf.a.tx.map (fun x => x.out.frame.kind),
        t.fpf.a.tx.map (fun x => x.out.frame), t.teu.out.map OutTile.started, t.pse.grant.map Grant.tile)))
    = some (some 0x05, some tripF, [0], some 41) := by decide +kernel
/-- R34: a follower in JOINING outside the plan it holds sets JOIN_PENDING in what it forwards. -/
theorem test_join_pending_is_set : after (.frameHeaderReceived .a 997 (some cycleF))
    { inState .joining with ctn := { (inState .joining).ctn with plan := [1, 3] } } (fun t =>
      t.fpf.b.tx.map fun x => x.out.frame.flags) = some (some 0x02) := by decide +kernel
/-- R53: the copy is dropped when port B goes down with no room at port A, and its good close makes the write. -/
theorem test_a_copy_dropped_after_its_header_makes_its_write :
    let busy (n : Nat) : Option Transmission := some ⟨ownFrame probeF .ownProbe .a, 900, n, none⟩
    let s : State := { follower with fpf := { follower.fpf with
      a := { follower.fpf.a with tx := busy 8192 }, b := { follower.fpf.b with tx := busy 0 } } }
    (after (.frameHeaderReceived .a 997 (some cycleF)) s id).bind (fun s => (after (.lightLost .b) s id).bind fun s =>
      after (.dataCopy .a 997 cycleF) s fun s => (s.fpf.drops, s.cfe.own.map Prod.snd)) = some (1, some 13) := by decide +kernel
/-- R58: REWRAPPED without WRAPPED is wrapped 0 times; R185: a copy outside its coding is kept and measures no D. -/
theorem test_returned_copies :
    let late (f : Frame) : Option (Option Nat × Option Nat) := after (.returnedCopy .b 2999 f)
      { lineNode with ctn := { lineNode.ctn with line := { lineNode.ctn.line with returnA := some ⟨1000, 3000, true⟩ } } }
      fun s => (s.ctn.line.keptA.map KeptCopy.wraps, s.ctn.line.delay)
    late { cycleF with flags := 0x40 } = some (some 0, some 1999)
    ∧ late { cycleF with body := .cycle { cycleB with code := 33 } } = some (some 0, lineNode.ctn.line.delay) := by decide +kernel
/-- R169, R171: a conflict makes the cycle numbers run anew, and a ring restart leaves no FIRST to be sent. -/
theorem test_events_and_first_after_a_restart :
    let u : TileUnit := { TileUnit.reset with carried := some (13, []), firstDue := true,
                                              out := [⟨0xFF, 4, 1, false, [0xAA], 1, 0, some ⟨1, false, true⟩⟩] }
    after (.ringRestart .drive) { lineNode with teu := u } (fun t => (t.teu.carried, t.teu.firstDue,
      t.teu.out.map fun e => e.row.map BroadcastRow.first)) = some (none, false, [some false])
    ∧ after (.probeAtFollower .a { probeF with body := .probe ⟨0, 1, 2 :: List.replicate 46 0⟩ }) { follower with teu := u } (fun t =>
      (t.ctn.state, t.teu.carried)) = some (.passive, none) := by decide +kernel
/-- R22: a TRIP frame in reception at a Soft Reset is not taken when it closes good after a Join; a further one is. -/
theorem test_soft_reset_discards_a_frame_in_reception :
    let quiet : State := { idle with
      ctn := { Ctn.reset with config := { NodeConfig.reset with address := 2, role := .follower } }
      fpf := { lockedPorts with a := { lit Fibre.reset with rx := some ⟨0, none, false, false⟩ } } }
    let joined := (after (.softReset .drive) quiet id).bind fun s =>
      after (.join .drive) { s with drive := Serial.reset } id
    let held (s : State) : Bool := (s.tru.remote.get 0).isSome
    (joined.bind fun s => after (.tripFrame .a tripF) s fun t => (s.ctn.state, held t)) = some (.joining, false)
    ∧ (joined.bind fun s => (after (.tripFrame .a tripF) s id).bind fun t => after (.tripFrame .a tripF) t held) = some true := by
  decide +kernel
/-- No row of the command table gives bits. -/
theorem test_no_word_spells_a_command : decodeTableWord 32 0xFFFFFFFF = none ∧ follower.withFetchWord 32 7 = follower := by
  constructor <;> rfl
/-- The waiting command leaves the queue, and its effect follows (log entry 1). -/
theorem test_step_takes_the_front : (match step { idle with pending := [.lightLost .a, .lightLost .b] } with
    | .next t => (t.pending, t.fpf.a.link, t.fpf.b.link) == ([.lightLost .b], .dark, .locked)
    | .fault _ | .refused _ => false) = true := by decide +kernel

end Sys2Proof.Tests
end

section
/-! PROOFS. Chapter 5, staging: Write Axis Context (R82), the commit pending mask (R83) and the re-phase mask (R95). -/

namespace Sys2Proof.Proofs.Contexts

open Sys2Proof Sys2Proof.Machine

/-! ### The readers of parameter values (12.4) -/

/-- A byte below `n` is the table position of its value. -/
theorem indexOf_of_toNat_eq {n : Nat} {b : Byte} {i : Fin n} (h : b.toNat = i.val) : indexOf n b = some i :=
  (dif_pos (h ▸ i.isLt)).trans (congrArg some (Fin.ext h))

/-- A byte of `n` or more is no table position. -/
theorem indexOf_of_le {n : Nat} {b : Byte} (h : n ≤ b.toNat) : indexOf n b = none :=
  dif_neg (Nat.not_lt.2 h)

/-- The reader of axis modes undoes their coding, and reads nothing else. -/
theorem axisModeOf_eq_some_iff {b : Byte} {m : AxisMode} : axisModeOf b = some m ↔ b = m.code := by
  constructor
  · intro h
    unfold axisModeOf at h
    split at h
    next h0 => cases h; exact eq_of_beq h0
    next =>
      split at h
      next h1 => cases h; exact eq_of_beq h1
      next =>
        split at h
        next h2 => cases h; exact eq_of_beq h2
        next => cases h
  · rintro rfl
    cases m <;> rfl

/-- The axis modes are coded by 0 to 2. -/
theorem axisMode_code_le (m : AxisMode) : m.code.toNat ≤ 2 := by
  cases m <;> decide

/-- A byte of 0 or 1 reads as whether it is 1. -/
theorem boolOf_of_le {b : Byte} (h : b.toNat ≤ 1) : boolOf b = some (b == 1) := by
  obtain h0 | h1 : b = 0 ∨ b = 1 := by bv_omega
  · subst h0; rfl
  · subst h1; rfl

/-- Only the bytes 0 and 1 read as yes or no. -/
theorem le_of_boolOf_eq_some {b : Byte} {x : Bool} (h : boolOf b = some x) : b.toNat ≤ 1 := by
  unfold boolOf at h
  split at h
  next h0 => rw [eq_of_beq h0]; decide
  next =>
    split at h
    next h1 => rw [eq_of_beq h1]; decide
    next => cases h

/-- ALIGNED or RUN, as the statements say it. -/
theorem cycling_iff (s : State) : s.cycling = true ↔ s.ctn.state ∈ [.aligned, .run] := by
  simp only [State.cycling, Bool.or_eq_true, beq_iff_eq, List.mem_cons, List.not_mem_nil, or_false]

/-! ### The context that the parameters spell (R80, R82) -/

/-- Every field but the gain, which is clamped, is in the range of R80. -/
def InRange (c : ContextParams) : Prop :=
  c.mode.toNat ≤ 2 ∧ c.marks.toNat ≤ 1 ∧ 1 ≤ c.den.toNat ∧ c.oSlew.toNat ≤ 2 ^ 24 ∧ c.limit.toNat < 2 ^ 31
    ∧ c.tSlew.toNat ≤ 2 ^ 24

/-- The context with mode `m` and every other field as the parameters spell it. -/
def spelled (m : AxisMode) (c : ContextParams) : AxisContext :=
  ⟨m, c.num.toInt, c.den.toNat, c.oTarget.toInt, c.oSlew.toNat, c.marks == 1, min 256 c.gain.toNat, c.limit.toNat,
    c.tSlew.toNat, c.quality.toNat, c.deadband.toNat⟩

/-- Fields in range spell a context, whose mode is the one their mode byte codes. -/
theorem contextOf_of_inRange {c : ContextParams} {m : AxisMode} (h : InRange c) (hm : c.mode = m.code) :
    contextOf c = some (spelled m c) := by
  obtain ⟨-, hmarks, hrest⟩ := h
  simp only [contextOf, axisModeOf_eq_some_iff.2 hm, boolOf_of_le hmarks, if_pos hrest, spelled]

/-- A field out of range spells no context. -/
theorem contextOf_of_not_inRange {c : ContextParams} (h : ¬ InRange c) : contextOf c = none := by
  cases hc : contextOf c with
  | none => rfl
  | some x =>
    refine absurd ?_ h
    unfold contextOf at hc
    split at hc
    next mode marks hmode hmarks =>
      have hm : c.mode.toNat ≤ 2 := axisModeOf_eq_some_iff.1 hmode ▸ axisMode_code_le mode
      split at hc
      next hrest => exact ⟨hm, le_of_boolOf_eq_some hmarks, hrest⟩
      next => cases hc
    next => cases hc

/-! ### Write Axis Context (R82) -/

section Write

variable {s : State} {p : SerialPort} {axis : Byte} {c : ContextParams} {i : Fin 8}

/-- R82, the first check: an axis above 7. -/
theorem writeAxisContext_no_axis (ha : s.Arrives p 0x27) (h : 8 ≤ axis.toNat) :
    exec (.writeAxisContext p axis c) s = .next (s.respond p 0x27 .range []) := by
  refine congrArg Host.Outcome.next (s.command_of_refused p 0x27 _ ha .range ?_)
  rw [indexOf_of_le h]

/-- R82, the second check: an axis in the commit pending mask. -/
theorem writeAxisContext_committed (ha : s.Arrives p 0x27) (hi : axis.toNat = i.val)
    (hp : s.axe.commit.getLsbD i.val = true) :
    exec (.writeAxisContext p axis c) s = .next (s.respond p 0x27 .busy []) := by
  refine congrArg Host.Outcome.next (s.command_of_refused p 0x27 _ ha .busy ?_)
  simp only [indexOf_of_toNat_eq hi, hp, if_true]

/-- R82, the third check: a field out of range. -/
theorem writeAxisContext_out_of_range (ha : s.Arrives p 0x27) (hi : axis.toNat = i.val)
    (hp : s.axe.commit.getLsbD i.val = false) (hc : ¬ InRange c) :
    exec (.writeAxisContext p axis c) s = .next (s.respond p 0x27 .range []) := by
  refine congrArg Host.Outcome.next (s.command_of_refused p 0x27 _ ha .range ?_)
  simp only [indexOf_of_toNat_eq hi, hp, contextOf_of_not_inRange hc, Bool.false_eq_true, if_false]

/-- R82: context B takes every field, the gain clamped; a clamped gain is answered with its value of 256. -/
theorem writeAxisContext_written (ha : s.Arrives p 0x27) (hi : axis.toNat = i.val)
    (hp : s.axe.commit.getLsbD i.val = false) (hc : InRange c) {m : AxisMode} (hm : c.mode = m.code) :
    exec (.writeAxisContext p axis c) s = .next ((s.putContext i (spelled m c)).respond p 0x27
      (if 256 < c.gain.toNat then .clamped else .ok) (if 256 < c.gain.toNat then [0x01, 0x00] else [])) := by
  refine congrArg Host.Outcome.next ((s.command_of_arrives p 0x27 _ ha).trans ?_)
  simp only [indexOf_of_toNat_eq hi, hp, contextOf_of_inRange hc hm]
  by_cases hg : 256 < c.gain.toNat
  · have hgain : (spelled m c).gain = 256 := Nat.min_eq_left (Nat.le_of_lt hg)
    simp only [hg, if_true, hgain]
    rfl
  · simp only [hg, if_false]
    rfl

end Write

/-! ### The masks (R83, R95) -/

section Masks

variable {s : State} {p : SerialPort} {mask : Byte}

/-- R95: Re-phase in ALIGNED or RUN with line state HALT. -/
theorem rePhase_taken (ha : s.Arrives p 0x2A) (hs : s.ctn.state ∈ [.aligned, .run]) (hl : s.lineState = some .halt) :
    exec (.rePhase p mask) s = .next
      (({ s with axe := { s.axe with rePhase := s.axe.rePhase ||| mask } }).respond p 0x2A .ok [s.axe.rePhase ||| mask]) := by
  refine congrArg Host.Outcome.next ((s.command_of_arrives p 0x2A _ ha).trans ?_)
  have hcond : (s.cycling && s.lineState == some .halt) = true := by rw [(cycling_iff s).2 hs, hl]; rfl
  simp only [hcond, if_true]
  rfl

/-- R95: Re-phase in any other state. -/
theorem rePhase_refused (ha : s.Arrives p 0x2A) (h : ¬ (s.ctn.state ∈ [.aligned, .run] ∧ s.lineState = some .halt)) :
    exec (.rePhase p mask) s = .next (s.respond p 0x2A .notNow []) := by
  refine congrArg Host.Outcome.next (s.command_of_refused p 0x2A _ ha .notNow ?_)
  refine if_neg fun hcond => h ?_
  obtain ⟨hs, hl⟩ := Bool.and_eq_true_iff.1 hcond
  exact ⟨(cycling_iff s).1 hs, eq_of_beq hl⟩

end Masks

/-- Settles O28: each clause of R82's order of checks, then the three masks. -/
theorem contextsAreStagedAndCommitted : Obligations.ContextsAreStagedAndCommitted := by
  unfold Obligations.ContextsAreStagedAndCommitted
  refine ⟨fun s p axis c ha => ⟨writeAxisContext_no_axis ha, fun i hi => ⟨writeAxisContext_committed ha hi,
    writeAxisContext_out_of_range ha hi, fun hp hc m hm => writeAxisContext_written ha hi hp hc hm⟩⟩, fun s p mask => ⟨?_, ?_, ?_⟩⟩
  · exact fun ha => congrArg Host.Outcome.next (s.command_of_arrives p 0x28 _ ha)
  · exact fun ha => congrArg Host.Outcome.next (s.command_of_arrives p 0x29 _ ha)
  · exact fun ha => ⟨rePhase_taken ha, rePhase_refused ha⟩

end Sys2Proof.Proofs.Contexts
end

section
/-! PROOFS. Chapter 9, the panel port's first two strip commands: Open Strip (R148), Write Strip Data and its data bytes (R149), with
the pages of the pool that they take (R145). -/

namespace Sys2Proof.Proofs.Strips

open Sys2Proof Sys2Proof.Machine
open Sys2Proof.Proofs.Contexts (indexOf_of_toNat_eq indexOf_of_le)

/-! ### What Open Strip reads: the priority (12.4) and the lowest free descriptor (R148) -/

/-- The bytes 0 and 1 read as ALERT and NORMAL. -/
theorem priorityOf_of_le {b : Byte} (h : b.toNat ≤ 1) : priorityOf b = some (if b = 0 then .alert else .normal) := by
  obtain h0 | h1 : b = 0 ∨ b = 1 := by bv_omega
  · subst h0; rfl
  · subst h1; rfl

/-- A byte above 1 reads as no priority. -/
theorem priorityOf_of_lt {b : Byte} (h : 1 < b.toNat) : priorityOf b = none := by
  have h0 : b ≠ 0 := by bv_omega
  have h1 : b ≠ 1 := by bv_omega
  rw [priorityOf, if_neg (mt eq_of_beq h0), if_neg (mt eq_of_beq h1)]

/-- A free descriptor with none free below it is the one taken. -/
theorem freeDescriptor_of_lowest {u : PacketStore} {h : Fin 16} (hfree : (u.descriptors.get h).strip = none)
    (hlow : ∀ j, j < h → (u.descriptors.get j).strip ≠ none) : u.freeDescriptor = some h := by
  have hused (j : Fin 16) (hj : j < h) : (!(u.descriptors.get j).strip.isNone) = true := by
    rw [Option.isNone_eq_false_iff.2 (Option.isSome_iff_ne_none.2 (hlow j hj))]
    rfl
  refine List.find?_eq_some_iff_getElem.2 ⟨Option.isNone_iff_eq_none.2 hfree, h.val, ?_, ?_, fun j hj => ?_⟩
  · exact List.length_finRange ▸ h.isLt
  · exact List.getElem_finRange _
  · rw [List.getElem_finRange]
    exact hused _ hj

/-- With every descriptor in use none is taken. -/
theorem freeDescriptor_of_full {u : PacketStore} (hfull : ∀ h, (u.descriptors.get h).strip ≠ none) :
    u.freeDescriptor = none :=
  List.find?_eq_none.2 fun h _ hnone => hfull h (Option.isNone_iff_eq_none.1 hnone)

/-! ### Open Strip (R148) -/

/-- The priority and the length are in range (R148). -/
def OpenInRange (length : Word) (pr : Byte) : Prop := pr.toNat ≤ 1 ∧ 1 ≤ length.toNat ∧ length.toNat ≤ 262144

/-- A priority in range is read. -/
theorem OpenInRange.priority_ok {length : Word} {pr : Byte} (h : OpenInRange length pr) :
    priorityOf pr = some (if pr = 0 then .alert else .normal) :=
  priorityOf_of_le h.1

/-- A length in range passes the model's check of it. -/
theorem OpenInRange.length_ok {length : Word} {pr : Byte} (h : OpenInRange length pr) :
    ¬ (length.toNat = 0 ∨ 262144 < length.toNat) := by
  obtain ⟨-, hlo, hhi⟩ := h
  omega

section Open

variable {s : State} {p : SerialPort} {id : Byte} {length : Word} {pr : Byte} {x : Stamp}

/-- R148, the first check: the priority or the length is out of range. -/
theorem openStrip_out_of_range (ha : s.Arrives p 0x44) (h : ¬ OpenInRange length pr) :
    exec (.openStrip p id length pr) s = .next (s.respond p 0x44 .range []) := by
  refine congrArg Host.Outcome.next (s.command_of_refused p 0x44 _ ha .range ?_)
  obtain hpr | hpr := Nat.lt_or_ge 1 pr.toNat
  · simp only [priorityOf_of_lt hpr]
  · have hlength : length.toNat = 0 ∨ 262144 < length.toNat := by
      have hbad : ¬ (1 ≤ length.toNat ∧ length.toNat ≤ 262144) := fun hgood => h ⟨hpr, hgood⟩
      omega
    simp only [priorityOf_of_le hpr, if_pos hlength]

/-- R148, the second check: no stamp in the list has the id. -/
theorem openStrip_no_stamp (ha : s.Arrives p 0x44) (h : OpenInRange length pr) (hx : s.tgu.stamp id = none) :
    exec (.openStrip p id length pr) s = .next (s.respond p 0x44 .unknown []) := by
  refine congrArg Host.Outcome.next (s.command_of_refused p 0x44 _ ha .unknown ?_)
  simp only [h.priority_ok, if_neg h.length_ok, hx]

/-- R148, the third check: the stamp is CLAIMED. -/
theorem openStrip_claimed (ha : s.Arrives p 0x44) (h : OpenInRange length pr) (hx : s.tgu.stamp id = some x)
    (hc : x.claimed = true) : exec (.openStrip p id length pr) s = .next (s.respond p 0x44 .busy []) := by
  refine congrArg Host.Outcome.next (s.command_of_refused p 0x44 _ ha .busy ?_)
  simp only [h.priority_ok, if_neg h.length_ok, hx, if_pos hc]

/-- R148, the fourth check: no descriptor is free. -/
theorem openStrip_full (ha : s.Arrives p 0x44) (h : OpenInRange length pr) (hx : s.tgu.stamp id = some x)
    (hc : x.claimed = false) (hfull : ∀ d, (s.pse.descriptors.get d).strip ≠ none) :
    exec (.openStrip p id length pr) s = .next (s.respond p 0x44 .full []) := by
  refine congrArg Host.Outcome.next (s.command_of_refused p 0x44 _ ha .full ?_)
  simp only [h.priority_ok, if_neg h.length_ok, hx, hc, Bool.false_eq_true, if_false, freeDescriptor_of_full hfull]

/-- R148: Open Strip taken, with the descriptor and the strip id in the response. -/
theorem openStrip_taken (ha : s.Arrives p 0x44) (h : OpenInRange length pr) (hx : s.tgu.stamp id = some x)
    (hc : x.claimed = false) {d : Fin 16} (hd : s.pse.freeDescriptor = some d) :
    exec (.openStrip p id length pr) s = .next
      ((s.openStrip d x length.toNat (if pr = 0 then .alert else .normal)).respond p 0x44 .ok
        (BitVec.ofNat 8 d.val :: bytesOf 2 s.pse.nextId)) := by
  refine congrArg Host.Outcome.next ((s.command_of_arrives p 0x44 _ ha).trans ?_)
  have hbyte : byteOf d.val 0 = BitVec.ofNat 8 d.val := by rw [byteOf, Nat.pow_zero, Nat.div_one]
  simp only [h.priority_ok, if_neg h.length_ok, hx, hc, Bool.false_eq_true, if_false, hd, hbyte]

/-- The stamp that a search by id finds has the id. -/
theorem id_of_stamp_eq_some (hx : s.tgu.stamp id = some x) : x.id = id :=
  eq_of_beq (List.find?_some (p := fun y : Stamp => y.id == id) hx)

end Open

/-! ### The parameters of Write Strip Data (R149) -/

section Parameters

variable {s : State} {p : SerialPort} {handle : Byte} {offset : Word} {h : Fin 16} {x : Strip}

/-- R172: the parameters taken, the data phase begins with the outcome of their checks. -/
theorem writeStripData_taken (ha : s.Arrives p 0x45) :
    exec (.writeStripData p handle offset) s = .next { s.stream p 0x45 false with
      pse := { s.pse with writing := some ⟨handle, s.checkWrite handle offset, 0⟩ } } := by
  have htaken := s.arrival_of_arrives p 0x45 ha
  have hpse : (s.stream p 0x45 false).pse = s.pse := by simp [State.stream]
  change execWriteStripData p handle offset s = _
  rw [execWriteStripData, htaken]
  simp only [State.onPse, hpse]

/-- R149: a handle above 15. -/
theorem checkWrite_no_handle (h : 15 < handle.toNat) : s.checkWrite handle offset = .range := by
  rw [State.checkWrite, indexOf_of_le h]

/-- R149: a free descriptor. -/
theorem checkWrite_free (hh : h.val = handle.toNat) (hx : (s.pse.descriptors.get h).strip = none) :
    s.checkWrite handle offset = .unknown := by
  simp only [State.checkWrite, indexOf_of_toNat_eq hh.symm, State.strip, hx]

/-- R149: a descriptor in use; the strip is to be OPEN and the offset where its data ends. -/
theorem checkWrite_used (hh : h.val = handle.toNat) (hx : (s.pse.descriptors.get h).strip = some x) :
    s.checkWrite handle offset
      = if x.state ≠ .opened then .notNow else if offset.toNat ≠ x.data.length then .range else .ok := by
  simp only [State.checkWrite, indexOf_of_toNat_eq hh.symm, State.strip, hx]

end Parameters

/-! ### Pages and POOL_LOW (R145) -/

/-- A STRIP page can be had when neither the quota nor the reserve forbids it. -/
theorem stripPagesAvailable_eq_zero_iff (s : State) :
    s.stripPagesAvailable = 0 ↔ ¬ (s.stripPages + 1 ≤ s.pse.quota ∧ s.pse.reserve + 1 ≤ s.freePages) := by
  unfold State.stripPagesAvailable
  omega

/-- POOL_LOW, bit 12, is raised when its condition comes to hold, and nothing else changes. -/
theorem notePool_eq (before s : State) : before.notePool s = { s with panel := { s.panel with
    pending := if before.pse.reserve < before.freePages ∧ s.freePages ≤ s.pse.reserve then s.panel.pending ||| 0x1000
      else s.panel.pending } } := by
  have hcomes : (!before.poolLow && s.poolLow) = true ↔
      before.pse.reserve < before.freePages ∧ s.freePages ≤ s.pse.reserve := by
    simp only [State.poolLow, Bool.and_eq_true, Bool.not_eq_true', decide_eq_false_iff_not, decide_eq_true_eq, Nat.not_le]
  simp only [State.notePool, State.when, hcomes]
  split
  · rfl
  · rfl

/-- A state with the same pages and reserve raises nothing. -/
theorem notePool_of_pages_kept {before s : State} (hpages : s.freePages = before.freePages)
    (hreserve : s.pse.reserve = before.pse.reserve) : before.notePool s = s := by
  rw [notePool_eq, if_neg (by omega)]

/-! ### The data bytes of Write Strip Data (R149) -/

section Bytes

variable {s : State} {p : SerialPort} {b : Byte} {w : StripWriting} {h : Fin 16} {x : Strip}

/-- Once the appending has ended, a data byte changes nothing. -/
theorem writeStripDataByte_ended (hw : s.pse.writing = some w) (ho : w.outcome ≠ .ok) :
    exec (.writeStripDataByte p b) s = .next s := by
  refine congrArg Host.Outcome.next ?_
  have hcond : ¬ (s.dataFor p 0x45 && w.outcome == .ok) = true := fun hc =>
    ho (eq_of_beq (Bool.and_eq_true_iff.1 hc).2)
  simp only [hw, if_neg hcond]
  split
  · split
    · rfl
    · rfl
  · rfl

/-- The port is in the data phase of Write Strip Data, whose appending has not ended and goes to the strip `x` of the descriptor
`h`. -/
structure Appending (s : State) (p : SerialPort) (w : StripWriting) (h : Fin 16) (x : Strip) : Prop where
  data : s.dataFor p 0x45 = true
  writing : s.pse.writing = some w
  outcome : w.outcome = .ok
  handle : h.val = w.handle.toNat
  strip : (s.pse.descriptors.get h).strip = some x

/-- A data byte while the appending goes on. -/
theorem writeStripDataByte_appending (ha : Appending s p w h x) :
    exec (.writeStripDataByte p b) s = .next (s.notePool (s.appendByte w h x b)) := by
  refine congrArg Host.Outcome.next ?_
  have hcond : (s.dataFor p 0x45 && w.outcome == .ok) = true := by rw [ha.data, ha.outcome]; rfl
  simp only [ha.writing, indexOf_of_toNat_eq ha.handle.symm, State.strip, ha.strip, if_pos hcond]

/-- R149: the declared length is reached, and the appending ends with RANGE. -/
theorem writeStripDataByte_past_end (ha : Appending s p w h x) (hlength : x.data.length = x.declared) :
    exec (.writeStripDataByte p b) s
      = .next { s with pse := { s.pse with writing := some { w with outcome := .range } } } := by
  rw [writeStripDataByte_appending ha, State.appendByte, if_pos hlength]
  exact congrArg Host.Outcome.next (notePool_of_pages_kept rfl rfl)

/-- R149: a page is to be taken and none can be had, and the appending ends with FULL. -/
theorem writeStripDataByte_no_page (ha : Appending s p w h x) (hlength : x.data.length ≠ x.declared)
    (hstart : x.data.length % 256 = 0)
    (hpage : ¬ (s.stripPages + 1 ≤ s.pse.quota ∧ s.pse.reserve + 1 ≤ s.freePages)) :
    exec (.writeStripDataByte p b) s
      = .next { s with pse := { s.pse with writing := some { w with outcome := .full } } } := by
  have hfull : x.data.length % Config.pageBytes = 0 ∧ s.stripPagesAvailable = 0 :=
    ⟨hstart, (stripPagesAvailable_eq_zero_iff s).2 hpage⟩
  rw [writeStripDataByte_appending ha, State.appendByte, if_neg hlength, if_pos hfull]
  exact congrArg Host.Outcome.next (notePool_of_pages_kept rfl rfl)

/-- R149: the byte joins the strip's data, which takes the pages for it. -/
theorem appendByte_stored (hlength : x.data.length ≠ x.declared)
    (hpage : x.data.length % 256 = 0 → s.stripPages + 1 ≤ s.pse.quota ∧ s.pse.reserve + 1 ≤ s.freePages) :
    s.appendByte w h x b = { s with pse := { s.pse with
      writing := some { w with stored := w.stored + 1 }
      descriptors := s.pse.descriptors.set h { s.pse.descriptors.get h with
        strip := some { x with data := x.data ++ [b], pages := (x.data.length + 1 + 255) / 256 } } } } := by
  have hroom : ¬ (x.data.length % Config.pageBytes = 0 ∧ s.stripPagesAvailable = 0) := fun ⟨hstart, hnone⟩ =>
    (stripPagesAvailable_eq_zero_iff s).1 hnone (hpage hstart)
  rw [State.appendByte, if_neg hlength, if_neg hroom]
  rfl

/-- R149, R145: the byte is stored, and POOL_LOW is raised when its condition comes to hold. -/
theorem writeStripDataByte_stored (ha : Appending s p w h x) (hlength : x.data.length ≠ x.declared)
    (hpage : x.data.length % 256 = 0 → s.stripPages + 1 ≤ s.pse.quota ∧ s.pse.reserve + 1 ≤ s.freePages) :
    ∃ t, exec (.writeStripDataByte p b) s = .next t
      ∧ t.panel.pending = (if s.pse.reserve < s.freePages ∧ t.freePages ≤ s.pse.reserve then s.panel.pending ||| 0x1000
          else s.panel.pending)
      ∧ t = { s with
          pse := { s.pse with
            writing := some { w with stored := w.stored + 1 }
            descriptors := s.pse.descriptors.set h { s.pse.descriptors.get h with
              strip := some { x with data := x.data ++ [b], pages := (x.data.length + 1 + 255) / 256 } } }
          panel := { s.panel with pending := t.panel.pending } } := by
  refine ⟨_, writeStripDataByte_appending ha, ?_⟩
  rw [appendByte_stored hlength hpage, notePool_eq]
  exact ⟨rfl, rfl⟩

end Bytes

/-- Settles O50: the checks of Open Strip in R148's order, the parameters of Write Strip Data, then a data byte by what it meets. -/
theorem stripsAreOpenedAndWritten : Obligations.StripsAreOpenedAndWritten := by
  unfold Obligations.StripsAreOpenedAndWritten
  refine fun s p => ⟨fun ha id length pr => ⟨openStrip_out_of_range ha, openStrip_no_stamp ha, fun x hgood hx =>
    ⟨openStrip_claimed ha hgood hx, openStrip_full ha hgood hx, fun hc d hfree hlow => ?_⟩⟩,
    fun ha handle offset => ⟨fun h => ?_, fun h hh => ⟨fun hx => ?_, fun x hx => ?_⟩⟩,
    fun hhold hstate hcommand hdenied b w hw => ⟨writeStripDataByte_ended hw, fun ho h x hh hx => ?_⟩⟩
  · have hid := id_of_stamp_eq_some hx
    rw [openStrip_taken ha hgood hx hc (freeDescriptor_of_lowest hfree hlow), ← hid]
    rfl
  · rw [← checkWrite_no_handle h]
    exact writeStripData_taken ha
  · rw [← checkWrite_free hh hx]
    exact writeStripData_taken ha
  · rw [← checkWrite_used hh hx]
    exact writeStripData_taken ha
  · have hdata : s.dataFor p 0x45 = true := by
      simp only [State.dataFor, State.live, hhold, hstate, hcommand, hdenied]; rfl
    have happending : Appending s p w h x := ⟨hdata, hw, ho, hh, hx⟩
    exact ⟨writeStripDataByte_past_end happending, writeStripDataByte_no_page happending,
      writeStripDataByte_stored happending⟩

end Sys2Proof.Proofs.Strips
end
